-- ==== Sys2Proof/Word.lean ====
section
/-! DEFINITION. The word types of the CK802 (00_scope R7, R11): registers and addresses of 32 bits, halfwords,
bytes. Only the types stand here; arithmetic on them is core `BitVec` arithmetic, modulo the width. -/

namespace Sys2Proof

/-- A register value or an address (00_scope R7). -/
abbrev Word := BitVec 32

/-- A halfword: 16 bits of data, or a 16-bit instruction (20_memory R82, 30_encoding R130). -/
abbrev Half := BitVec 16

/-- A byte, the unit of memory (20_memory R80). -/
abbrev Byte := BitVec 8

end Sys2Proof
end

