-- ==== Sys2Proof/Syntax.lean ====
section
/-! DEFINITION. The instructions of the CK802: one constructor of `Instr` per row of spec/opcode_table.json, in the
table's order (30_encoding R166). An operand is the field of the encoding, as bits: a register field of 3, 4 or 5
bits (R141), an immediate field before scaling, biasing or extension (R142). Split immediates are joined here:
`lrw16`'s 8-bit word offset (R143), the 7-bit `{IMM2, IMM5}` of the stack-pointer forms, the 8-bit `{IMM3, IMM5}`
of the SP-relative accesses (R139). -/

namespace Sys2Proof

/-- An instruction of opcode_table.json. The comment of a constructor names its row and its rule. -/
inductive Instr
  /-- `addu32`, R201. -/
  | addu32 (rz rx ry : BitVec 5)
  /-- `addc32`, R202. -/
  | addc32 (rz rx ry : BitVec 5)
  /-- `subu32`, R205. -/
  | subu32 (rz rx ry : BitVec 5)
  /-- `subc32`, R206. -/
  | subc32 (rz rx ry : BitVec 5)
  /-- `mvc32`, R346. -/
  | mvc32 (rz : BitVec 5)
  /-- `ixh32`, R210. -/
  | ixh32 (rz rx ry : BitVec 5)
  /-- `ixw32`, R211. -/
  | ixw32 (rz rx ry : BitVec 5)
  /-- `incf32`, R212. -/
  | incf32 (rz rx imm5 : BitVec 5)
  /-- `inct32`, R213. -/
  | inct32 (rz rx imm5 : BitVec 5)
  /-- `decf32`, R214. -/
  | decf32 (rz rx imm5 : BitVec 5)
  /-- `dect32`, R215. -/
  | dect32 (rz rx imm5 : BitVec 5)
  /-- `and32`, R240. -/
  | and32 (rz rx ry : BitVec 5)
  /-- `andn32`, R242. -/
  | andn32 (rz rx ry : BitVec 5)
  /-- `or32`, R244. -/
  | or32 (rz rx ry : BitVec 5)
  /-- `xor32`, R246. -/
  | xor32 (rz rx ry : BitVec 5)
  /-- `nor32`, R248. -/
  | nor32 (rz rx ry : BitVec 5)
  /-- `bclri32`, R350. -/
  | bclri32 (rz rx imm5 : BitVec 5)
  /-- `bseti32`, R351. -/
  | bseti32 (rz rx imm5 : BitVec 5)
  /-- `btsti32`, R352. -/
  | btsti32 (rx imm5 : BitVec 5)
  /-- `lsl32`, R271. -/
  | lsl32 (rz rx ry : BitVec 5)
  /-- `lsr32`, R274. -/
  | lsr32 (rz rx ry : BitVec 5)
  /-- `asr32`, R277. -/
  | asr32 (rz rx ry : BitVec 5)
  /-- `rotl32`, R280. -/
  | rotl32 (rz rx ry : BitVec 5)
  /-- `lsli32`, R272. -/
  | lsli32 (rz rx imm5 : BitVec 5)
  /-- `lsri32`, R275. -/
  | lsri32 (rz rx imm5 : BitVec 5)
  /-- `asri32`, R278. -/
  | asri32 (rz rx imm5 : BitVec 5)
  /-- `rotli32`, R281. -/
  | rotli32 (rz rx imm5 : BitVec 5)
  /-- `lslc32`, R273. -/
  | lslc32 (rz rx imm5 : BitVec 5)
  /-- `lsrc32`, R276. -/
  | lsrc32 (rz rx imm5 : BitVec 5)
  /-- `asrc32`, R279. -/
  | asrc32 (rz rx imm5 : BitVec 5)
  /-- `xsr32`, R282. -/
  | xsr32 (rz rx imm5 : BitVec 5)
  /-- `bmaski32`, R353. -/
  | bmaski32 (rz imm5 : BitVec 5)
  /-- `xtrb0.32`, R359. -/
  | xtrb0 (rz rx : BitVec 5)
  /-- `xtrb1.32`, R360. -/
  | xtrb1 (rz rx : BitVec 5)
  /-- `xtrb2.32`, R361. -/
  | xtrb2 (rz rx : BitVec 5)
  /-- `xtrb3.32`, R362. -/
  | xtrb3 (rz rx : BitVec 5)
  /-- `ff0.32`, R365. -/
  | ff0 (rz rx : BitVec 5)
  /-- `ff1.32`, R366. -/
  | ff1 (rz rx : BitVec 5)
  /-- `mult32`, R367. -/
  | mult32 (rz rx ry : BitVec 5)
  /-- `addi32`, R203. -/
  | addi32 (rz rx : BitVec 5) (imm12 : BitVec 12)
  /-- `subi32`, R207. -/
  | subi32 (rz rx : BitVec 5) (imm12 : BitVec 12)
  /-- `andi32`, R241. -/
  | andi32 (rz rx : BitVec 5) (imm12 : BitVec 12)
  /-- `andni32`, R243. -/
  | andni32 (rz rx : BitVec 5) (imm12 : BitVec 12)
  /-- `xori32`, R247. -/
  | xori32 (rz rx : BitVec 5) (imm12 : BitVec 12)
  /-- `ld32.b`, R432. -/
  | ld32b (rz rx : BitVec 5) (imm12 : BitVec 12)
  /-- `ld32.h`, R434. -/
  | ld32h (rz rx : BitVec 5) (imm12 : BitVec 12)
  /-- `ld32.w`, R436. -/
  | ld32w (rz rx : BitVec 5) (imm12 : BitVec 12)
  /-- `ld32.bs`, R433. -/
  | ld32bs (rz rx : BitVec 5) (imm12 : BitVec 12)
  /-- `ld32.hs`, R435. -/
  | ld32hs (rz rx : BitVec 5) (imm12 : BitVec 12)
  /-- `st32.b`, R440. -/
  | st32b (rz rx : BitVec 5) (imm12 : BitVec 12)
  /-- `st32.h`, R441. -/
  | st32h (rz rx : BitVec 5) (imm12 : BitVec 12)
  /-- `st32.w`, R442. -/
  | st32w (rz rx : BitVec 5) (imm12 : BitVec 12)
  /-- `br32`, R404. -/
  | br32 (offset : BitVec 16)
  /-- `bf32`, R403. -/
  | bf32 (offset : BitVec 16)
  /-- `bt32`, R402. -/
  | bt32 (offset : BitVec 16)
  /-- `movi32`, R344. -/
  | movi32 (rz : BitVec 5) (imm16 : BitVec 16)
  /-- `movih32`, R345. -/
  | movih32 (rz : BitVec 5) (imm16 : BitVec 16)
  /-- `lrw32`, R348. -/
  | lrw32 (rz : BitVec 5) (offset : BitVec 16)
  /-- `cmphsi32`, R314. -/
  | cmphsi32 (rx : BitVec 5) (imm16 : BitVec 16)
  /-- `cmplti32`, R316. -/
  | cmplti32 (rx : BitVec 5) (imm16 : BitVec 16)
  /-- `cmpnei32`, R312. -/
  | cmpnei32 (rx : BitVec 5) (imm16 : BitVec 16)
  /-- `ori32`, R245. -/
  | ori32 (rz rx : BitVec 5) (imm16 : BitVec 16)
  /-- `bsr32`, R405. -/
  | bsr32 (offset : BitVec 26)
  /-- `ldm32`, R446. -/
  | ldm32 (ry rx imm5 : BitVec 5)
  /-- `stm32`, R448. -/
  | stm32 (ry rx imm5 : BitVec 5)
  /-- `sync32`, R511. -/
  | sync32
  /-- `bmset32`, R515. -/
  | bmset32
  /-- `bmclr32`, R516. -/
  | bmclr32
  /-- `trap32`, R510. -/
  | trap32 (n : BitVec 2)
  /-- `rte32`, R496. -/
  | rte32
  /-- `stop32`, R503. -/
  | stop32
  /-- `wait32`, R501. -/
  | wait32
  /-- `doze32`, R502. -/
  | doze32
  /-- `mfcr32`, R492. -/
  | mfcr32 (rz crx sel : BitVec 5)
  /-- `mtcr32`, R493. -/
  | mtcr32 (rx crz sel : BitVec 5)
  /-- `psrclr32`, R495. -/
  | psrclr32 (imm5 : BitVec 5)
  /-- `psrset32`, R494. -/
  | psrset32 (imm5 : BitVec 5)
  /-- `bkpt16`, R520. -/
  | bkpt16
  /-- `lrw16`, R348. -/
  | lrw16 (rz : BitVec 3) (offset : BitVec 8)
  /-- `br16`, R404. -/
  | br16 (offset : BitVec 10)
  /-- `bt16`, R402. -/
  | bt16 (offset : BitVec 10)
  /-- `bf16`, R403. -/
  | bf16 (offset : BitVec 10)
  /-- `addi16.sp`, R204. -/
  | addi16sp (imm7 : BitVec 7)
  /-- `subi16.sp`, R208. -/
  | subi16sp (imm7 : BitVec 7)
  /-- `nie16`, R497. -/
  | nie16
  /-- `nir16`, R498. -/
  | nir16
  /-- `ipush16`, R458. -/
  | ipush16
  /-- `ipop16`, R459. -/
  | ipop16
  /-- `pop16`, R457. -/
  | pop16 (r15 : BitVec 1) (list1 : BitVec 4)
  /-- `push16`, R456. -/
  | push16 (r15 : BitVec 1) (list1 : BitVec 4)
  /-- `bpop16.h`, R473. -/
  | bpop16h (rz : BitVec 3)
  /-- `bpop16.w`, R474. -/
  | bpop16w (rz : BitVec 3)
  /-- `bpush16.h`, R471. -/
  | bpush16h (rz : BitVec 3)
  /-- `bpush16.w`, R472. -/
  | bpush16w (rz : BitVec 3)
  /-- `addi16.rsp`, R204. -/
  | addi16rsp (rz : BitVec 3) (imm8 : BitVec 8)
  /-- `addi16.i8`, R203. -/
  | addi16i8 (rz : BitVec 3) (imm8 : BitVec 8)
  /-- `subi16.i8`, R207. -/
  | subi16i8 (rz : BitVec 3) (imm8 : BitVec 8)
  /-- `movi16`, R344. -/
  | movi16 (rz : BitVec 3) (imm8 : BitVec 8)
  /-- `cmphsi16`, R314. -/
  | cmphsi16 (rx : BitVec 3) (imm5 : BitVec 5)
  /-- `cmplti16`, R316. -/
  | cmplti16 (rx : BitVec 3) (imm5 : BitVec 5)
  /-- `cmpnei16`, R312. -/
  | cmpnei16 (rx : BitVec 3) (imm5 : BitVec 5)
  /-- `bclri16`, R350. -/
  | bclri16 (rz : BitVec 3) (imm5 : BitVec 5)
  /-- `bseti16`, R351. -/
  | bseti16 (rz : BitVec 3) (imm5 : BitVec 5)
  /-- `btsti16`, R352. -/
  | btsti16 (rx : BitVec 3) (imm5 : BitVec 5)
  /-- `jmpix16`, R409. -/
  | jmpix16 (rx : BitVec 3) (imm2 : BitVec 2)
  /-- `lsli16`, R272. -/
  | lsli16 (rz rx : BitVec 3) (imm5 : BitVec 5)
  /-- `lsri16`, R275. -/
  | lsri16 (rz rx : BitVec 3) (imm5 : BitVec 5)
  /-- `asri16`, R278. -/
  | asri16 (rz rx : BitVec 3) (imm5 : BitVec 5)
  /-- `addu16.3`, R201. -/
  | addu16r3 (rz rx ry : BitVec 3)
  /-- `subu16.3`, R205. -/
  | subu16r3 (rz rx ry : BitVec 3)
  /-- `addi16.i3`, R203. -/
  | addi16i3 (rz rx imm3 : BitVec 3)
  /-- `subi16.i3`, R207. -/
  | subi16i3 (rz rx imm3 : BitVec 3)
  /-- `addu16`, R201. -/
  | addu16 (rz rx : BitVec 4)
  /-- `addc16`, R202. -/
  | addc16 (rz rx : BitVec 4)
  /-- `subu16`, R205. -/
  | subu16 (rz rx : BitVec 4)
  /-- `subc16`, R206. -/
  | subc16 (rz rx : BitVec 4)
  /-- `cmphs16`, R313. -/
  | cmphs16 (rx ry : BitVec 4)
  /-- `cmplt16`, R315. -/
  | cmplt16 (rx ry : BitVec 4)
  /-- `cmpne16`, R311. -/
  | cmpne16 (rx ry : BitVec 4)
  /-- `mvcv16`, R347. -/
  | mvcv16 (rz : BitVec 4)
  /-- `and16`, R240. -/
  | and16 (rz rx : BitVec 4)
  /-- `andn16`, R242. -/
  | andn16 (rz rx : BitVec 4)
  /-- `tst16`, R317. -/
  | tst16 (rx ry : BitVec 4)
  /-- `tstnbz16`, R318. -/
  | tstnbz16 (rx : BitVec 4)
  /-- `or16`, R244. -/
  | or16 (rz rx : BitVec 4)
  /-- `xor16`, R246. -/
  | xor16 (rz rx : BitVec 4)
  /-- `nor16`, R248. -/
  | nor16 (rz rx : BitVec 4)
  /-- `mov16`, R341. -/
  | mov16 (rz rx : BitVec 4)
  /-- `lsl16`, R271. -/
  | lsl16 (rz rx : BitVec 4)
  /-- `lsr16`, R274. -/
  | lsr16 (rz rx : BitVec 4)
  /-- `asr16`, R277. -/
  | asr16 (rz rx : BitVec 4)
  /-- `rotl16`, R280. -/
  | rotl16 (rz rx : BitVec 4)
  /-- `zextb16`, R355. -/
  | zextb16 (rz rx : BitVec 4)
  /-- `zexth16`, R356. -/
  | zexth16 (rz rx : BitVec 4)
  /-- `sextb16`, R357. -/
  | sextb16 (rz rx : BitVec 4)
  /-- `sexth16`, R358. -/
  | sexth16 (rz rx : BitVec 4)
  /-- `jmp16`, R406. -/
  | jmp16 (rx : BitVec 4)
  /-- `jsr16`, R407. -/
  | jsr16 (rx : BitVec 4)
  /-- `revb16`, R363. -/
  | revb16 (rz rx : BitVec 4)
  /-- `revh16`, R364. -/
  | revh16 (rz rx : BitVec 4)
  /-- `mult16`, R367. -/
  | mult16 (rz rx : BitVec 4)
  /-- `ld16.b`, R432. -/
  | ld16b (rz rx : BitVec 3) (imm5 : BitVec 5)
  /-- `ld16.h`, R434. -/
  | ld16h (rz rx : BitVec 3) (imm5 : BitVec 5)
  /-- `ld16.w`, R436. -/
  | ld16w (rz rx : BitVec 3) (imm5 : BitVec 5)
  /-- `st16.b`, R440. -/
  | st16b (rz rx : BitVec 3) (imm5 : BitVec 5)
  /-- `st16.h`, R441. -/
  | st16h (rz rx : BitVec 3) (imm5 : BitVec 5)
  /-- `st16.w`, R442. -/
  | st16w (rz rx : BitVec 3) (imm5 : BitVec 5)
  /-- `ld16.w.sp`, R436. -/
  | ld16wsp (rz : BitVec 3) (imm8 : BitVec 8)
  /-- `st16.w.sp`, R442. -/
  | st16wsp (rz : BitVec 3) (imm8 : BitVec 8)
  deriving DecidableEq, Repr

end Sys2Proof
end

