-- ==== Sys2Proof/WellFormed.lean ====
section
/-! DEFINITION. Which terms of `Instr` are instructions of the CK802. Almost every term is one, because an operand is
exactly the field of the encoding; the four checks below are where the spec excludes a value of a field. -/

namespace Sys2Proof

/-- The register list of PUSH and POP: LIST1 is at most 1000 (46_loadstore R455). -/
def listOk (list1 : BitVec 4) : Bool := list1.toNat ≤ 8

/-- The mask of PSRSET and PSRCLR: IMM5[4] is reserved and zero (47_system R494). -/
def psrMaskOk (imm5 : BitVec 5) : Bool := !imm5.getLsbD 4

/-- `lrw16 r0` with word offset 255 would be the all-zero halfword, which is BKPT (30_encoding R143). -/
def lrw16Ok (rz : BitVec 3) (offset : BitVec 8) : Bool := !(rz == 0 && offset == 255)

/-- The instructions that exist (30_encoding R155, R156). -/
def Instr.WellFormed : Instr → Bool
  | .lrw16 rz offset => lrw16Ok rz offset
  | .pop16 _ list1 => listOk list1
  | .push16 _ list1 => listOk list1
  | .psrclr32 imm5 => psrMaskOk imm5
  | .psrset32 imm5 => psrMaskOk imm5
  | .addu32 .. | .addc32 .. | .subu32 .. | .subc32 .. | .mvc32 .. | .ixh32 .. | .ixw32 .. | .incf32 ..
  | .inct32 .. | .decf32 .. | .dect32 .. | .and32 .. | .andn32 .. | .or32 .. | .xor32 .. | .nor32 ..
  | .bclri32 .. | .bseti32 .. | .btsti32 .. | .lsl32 .. | .lsr32 .. | .asr32 .. | .rotl32 .. | .lsli32 ..
  | .lsri32 .. | .asri32 .. | .rotli32 .. | .lslc32 .. | .lsrc32 .. | .asrc32 .. | .xsr32 .. | .bmaski32 ..
  | .xtrb0 .. | .xtrb1 .. | .xtrb2 .. | .xtrb3 .. | .ff0 .. | .ff1 .. | .mult32 .. | .addi32 .. | .subi32 ..
  | .andi32 .. | .andni32 .. | .xori32 .. | .ld32b .. | .ld32h .. | .ld32w .. | .ld32bs .. | .ld32hs ..
  | .st32b .. | .st32h .. | .st32w .. | .br32 .. | .bf32 .. | .bt32 .. | .movi32 .. | .movih32 .. | .lrw32 ..
  | .cmphsi32 .. | .cmplti32 .. | .cmpnei32 .. | .ori32 .. | .bsr32 .. | .ldm32 .. | .stm32 .. | .sync32 ..
  | .bmset32 .. | .bmclr32 .. | .trap32 .. | .rte32 .. | .stop32 .. | .wait32 .. | .doze32 .. | .mfcr32 ..
  | .mtcr32 .. | .bkpt16 .. | .br16 .. | .bt16 .. | .bf16 .. | .addi16sp .. | .subi16sp .. | .nie16 ..
  | .nir16 .. | .ipush16 .. | .ipop16 .. | .bpop16h .. | .bpop16w .. | .bpush16h .. | .bpush16w ..
  | .addi16rsp .. | .addi16i8 .. | .subi16i8 .. | .movi16 .. | .cmphsi16 .. | .cmplti16 .. | .cmpnei16 ..
  | .bclri16 .. | .bseti16 .. | .btsti16 .. | .jmpix16 .. | .lsli16 .. | .lsri16 .. | .asri16 .. | .addu16r3 ..
  | .subu16r3 .. | .addi16i3 .. | .subi16i3 .. | .addu16 .. | .addc16 .. | .subu16 .. | .subc16 ..
  | .cmphs16 .. | .cmplt16 .. | .cmpne16 .. | .mvcv16 .. | .and16 .. | .andn16 .. | .tst16 .. | .tstnbz16 ..
  | .or16 .. | .xor16 .. | .nor16 .. | .mov16 .. | .lsl16 .. | .lsr16 .. | .asr16 .. | .rotl16 .. | .zextb16 ..
  | .zexth16 .. | .sextb16 .. | .sexth16 .. | .jmp16 .. | .jsr16 .. | .revb16 .. | .revh16 .. | .mult16 ..
  | .ld16b .. | .ld16h .. | .ld16w .. | .st16b .. | .st16h .. | .st16w .. | .ld16wsp .. | .st16wsp .. => true

end Sys2Proof
end

