-- ==== Sys2Proof/Decode.lean ====
section
/-! DEFINITION. The decoder, from the encoding tables of 30_encoding.md (R131, R143 to R149, R155, R156, R170), total
on any halfwords and rejecting by name; after it the encoder, from the same tables. -/

namespace Sys2Proof

/-! ### Fields of the 32-bit formats (R134 to R137) -/

/-- Bits 31:26, the `11` mark and the major opcode (R133). -/
def op6 (w : Word) : BitVec 6 := w.extractLsb' 26 6
/-- Bits 25:21: RY, RZ, IMM5, SOP or sel (R135 to R137). -/
def f25 (w : Word) : BitVec 5 := w.extractLsb' 21 5
/-- Bits 20:16: RX, or a destination of the imm16 group (R135 to R137). -/
def f20 (w : Word) : BitVec 5 := w.extractLsb' 16 5
/-- Bits 15:10, SOP of the R type (R137). -/
def sop6 (w : Word) : BitVec 6 := w.extractLsb' 10 6
/-- Bits 9:5, the one-hot Pcode of the R type (R137). -/
def pcode (w : Word) : BitVec 5 := w.extractLsb' 5 5
/-- Bits 4:0: RZ or IMM5 of the R type (R137). -/
def f4 (w : Word) : BitVec 5 := w.extractLsb' 0 5
/-- Bits 15:12, SOP of the I type with a 12-bit immediate (R136). -/
def sop4 (w : Word) : BitVec 4 := w.extractLsb' 12 4
/-- Bits 11:0 (R136). -/
def imm12 (w : Word) : BitVec 12 := w.extractLsb' 0 12
/-- Bits 15:0 (R135). -/
def imm16 (w : Word) : BitVec 16 := w.extractLsb' 0 16
/-- Bits 25:0, the offset of the J type (R134). -/
def off26 (w : Word) : BitVec 26 := w.extractLsb' 0 26

/-- An instruction whose figure draws the bits `b` as zeros; with a bit set there it is no instruction (R155, R156). -/
def ifZero {n : Nat} (b : BitVec n) (i : Instr) : Option Instr := if b = 0 then some i else none

/-- An instruction that is only one for some values of an operand field (R455, R494). -/
def ifWellFormed (i : Instr) : Option Instr := if i.WellFormed then some i else none

/-! ### The 32-bit map (R145 to R149) -/

/-- Group `110001`, arithmetic, logic, shift, bit and multiply (R146). -/
def decodeAlu32 (w : Word) : Option Instr :=
  match sop6 w, pcode w with
  | 0b000000#6, 0b00001#5 => some (.addu32 (f4 w) (f20 w) (f25 w))
  | 0b000000#6, 0b00010#5 => some (.addc32 (f4 w) (f20 w) (f25 w))
  | 0b000000#6, 0b00100#5 => some (.subu32 (f4 w) (f20 w) (f25 w))
  | 0b000000#6, 0b01000#5 => some (.subc32 (f4 w) (f20 w) (f25 w))
  | 0b000001#6, 0b01000#5 => ifZero (f25 w ++ f20 w) (.mvc32 (f4 w))
  | 0b000010#6, 0b00001#5 => some (.ixh32 (f4 w) (f20 w) (f25 w))
  | 0b000010#6, 0b00010#5 => some (.ixw32 (f4 w) (f20 w) (f25 w))
  | 0b000011#6, 0b00001#5 => some (.incf32 (f25 w) (f20 w) (f4 w))
  | 0b000011#6, 0b00010#5 => some (.inct32 (f25 w) (f20 w) (f4 w))
  | 0b000011#6, 0b00100#5 => some (.decf32 (f25 w) (f20 w) (f4 w))
  | 0b000011#6, 0b01000#5 => some (.dect32 (f25 w) (f20 w) (f4 w))
  | 0b001000#6, 0b00001#5 => some (.and32 (f4 w) (f20 w) (f25 w))
  | 0b001000#6, 0b00010#5 => some (.andn32 (f4 w) (f20 w) (f25 w))
  | 0b001001#6, 0b00001#5 => some (.or32 (f4 w) (f20 w) (f25 w))
  | 0b001001#6, 0b00010#5 => some (.xor32 (f4 w) (f20 w) (f25 w))
  | 0b001001#6, 0b00100#5 => some (.nor32 (f4 w) (f20 w) (f25 w))
  | 0b001010#6, 0b00001#5 => some (.bclri32 (f4 w) (f20 w) (f25 w))
  | 0b001010#6, 0b00010#5 => some (.bseti32 (f4 w) (f20 w) (f25 w))
  | 0b001010#6, 0b00100#5 => ifZero (f4 w) (.btsti32 (f20 w) (f25 w))
  | 0b010000#6, 0b00001#5 => some (.lsl32 (f4 w) (f20 w) (f25 w))
  | 0b010000#6, 0b00010#5 => some (.lsr32 (f4 w) (f20 w) (f25 w))
  | 0b010000#6, 0b00100#5 => some (.asr32 (f4 w) (f20 w) (f25 w))
  | 0b010000#6, 0b01000#5 => some (.rotl32 (f4 w) (f20 w) (f25 w))
  | 0b010010#6, 0b00001#5 => some (.lsli32 (f4 w) (f20 w) (f25 w))
  | 0b010010#6, 0b00010#5 => some (.lsri32 (f4 w) (f20 w) (f25 w))
  | 0b010010#6, 0b00100#5 => some (.asri32 (f4 w) (f20 w) (f25 w))
  | 0b010010#6, 0b01000#5 => some (.rotli32 (f4 w) (f20 w) (f25 w))
  | 0b010011#6, 0b00001#5 => some (.lslc32 (f4 w) (f20 w) (f25 w))
  | 0b010011#6, 0b00010#5 => some (.lsrc32 (f4 w) (f20 w) (f25 w))
  | 0b010011#6, 0b00100#5 => some (.asrc32 (f4 w) (f20 w) (f25 w))
  | 0b010011#6, 0b01000#5 => some (.xsr32 (f4 w) (f20 w) (f25 w))
  | 0b010100#6, 0b00001#5 => ifZero (f20 w) (.bmaski32 (f4 w) (f25 w))
  | 0b011100#6, 0b00001#5 => ifZero (f25 w) (.xtrb0 (f4 w) (f20 w))
  | 0b011100#6, 0b00010#5 => ifZero (f25 w) (.xtrb1 (f4 w) (f20 w))
  | 0b011100#6, 0b00100#5 => ifZero (f25 w) (.xtrb2 (f4 w) (f20 w))
  | 0b011100#6, 0b01000#5 => ifZero (f25 w) (.xtrb3 (f4 w) (f20 w))
  | 0b011111#6, 0b00001#5 => ifZero (f25 w) (.ff0 (f4 w) (f20 w))
  | 0b011111#6, 0b00010#5 => ifZero (f25 w) (.ff1 (f4 w) (f20 w))
  | 0b100001#6, 0b00001#5 => some (.mult32 (f4 w) (f20 w) (f25 w))
  | _, _ => none

/-- Group `110000`, system (R147, R525). IMM5[4] of PSRSET and PSRCLR must be zero (R494). -/
def decodeSystem32 (w : Word) : Option Instr :=
  match sop6 w, pcode w with
  | 0b000001#6, 0b00001#5 => ifZero (f25 w ++ f20 w ++ f4 w) .sync32
  | 0b000100#6, 0b00001#5 => ifZero (f25 w ++ f20 w ++ f4 w) .bmset32
  | 0b000101#6, 0b00001#5 => ifZero (f25 w ++ f20 w ++ f4 w) .bmclr32
  | 0b001000#6, 0b00001#5 => ifZero (f25 w ++ f20 w ++ f4 w) (.trap32 0#2)
  | 0b001001#6, 0b00001#5 => ifZero (f25 w ++ f20 w ++ f4 w) (.trap32 1#2)
  | 0b001010#6, 0b00001#5 => ifZero (f25 w ++ f20 w ++ f4 w) (.trap32 2#2)
  | 0b001011#6, 0b00001#5 => ifZero (f25 w ++ f20 w ++ f4 w) (.trap32 3#2)
  | 0b010000#6, 0b00001#5 => ifZero (f25 w ++ f20 w ++ f4 w) .rte32
  | 0b010010#6, 0b00001#5 => ifZero (f25 w ++ f20 w ++ f4 w) .stop32
  | 0b010011#6, 0b00001#5 => ifZero (f25 w ++ f20 w ++ f4 w) .wait32
  | 0b010100#6, 0b00001#5 => ifZero (f25 w ++ f20 w ++ f4 w) .doze32
  | 0b011000#6, 0b00001#5 => some (.mfcr32 (f4 w) (f20 w) (f25 w))
  | 0b011001#6, 0b00001#5 => some (.mtcr32 (f20 w) (f4 w) (f25 w))
  | 0b011100#6, 0b00001#5 => (ifZero (f20 w ++ f4 w) (.psrclr32 (f25 w))).bind ifWellFormed
  | 0b011101#6, 0b00001#5 => (ifZero (f20 w ++ f4 w) (.psrset32 (f25 w))).bind ifWellFormed
  | _, _ => none

/-- Group `111010`, the imm16 group (R148). -/
def decodeImm16 (w : Word) : Option Instr :=
  match f25 w with
  | 0b00000#5 => ifZero (f20 w) (.br32 (imm16 w))
  | 0b00010#5 => ifZero (f20 w) (.bf32 (imm16 w))
  | 0b00011#5 => ifZero (f20 w) (.bt32 (imm16 w))
  | 0b10000#5 => some (.movi32 (f20 w) (imm16 w))
  | 0b10001#5 => some (.movih32 (f20 w) (imm16 w))
  | 0b10100#5 => some (.lrw32 (f20 w) (imm16 w))
  | 0b11000#5 => some (.cmphsi32 (f20 w) (imm16 w))
  | 0b11001#5 => some (.cmplti32 (f20 w) (imm16 w))
  | 0b11010#5 => some (.cmpnei32 (f20 w) (imm16 w))
  | _ => none

/-- Group `110110`, loads (R149, R443). -/
def decodeLoad32 (w : Word) : Option Instr :=
  match sop4 w with
  | 0b0000#4 => some (.ld32b (f25 w) (f20 w) (imm12 w))
  | 0b0001#4 => some (.ld32h (f25 w) (f20 w) (imm12 w))
  | 0b0010#4 => some (.ld32w (f25 w) (f20 w) (imm12 w))
  | 0b0100#4 => some (.ld32bs (f25 w) (f20 w) (imm12 w))
  | 0b0101#4 => some (.ld32hs (f25 w) (f20 w) (imm12 w))
  | _ => none

/-- Group `110111`, stores (R149, R443). -/
def decodeStore32 (w : Word) : Option Instr :=
  match sop4 w with
  | 0b0000#4 => some (.st32b (f25 w) (f20 w) (imm12 w))
  | 0b0001#4 => some (.st32h (f25 w) (f20 w) (imm12 w))
  | 0b0010#4 => some (.st32w (f25 w) (f20 w) (imm12 w))
  | _ => none

/-- Group `111001`, immediate arithmetic and logic (R149). -/
def decodeImm12 (w : Word) : Option Instr :=
  match sop4 w with
  | 0b0000#4 => some (.addi32 (f25 w) (f20 w) (imm12 w))
  | 0b0001#4 => some (.subi32 (f25 w) (f20 w) (imm12 w))
  | 0b0010#4 => some (.andi32 (f25 w) (f20 w) (imm12 w))
  | 0b0011#4 => some (.andni32 (f25 w) (f20 w) (imm12 w))
  | 0b0100#4 => some (.xori32 (f25 w) (f20 w) (imm12 w))
  | _ => none

/-- Major opcode `110100`, LDM (R145, R450). -/
def decodeLdm (w : Word) : Option Instr :=
  match sop6 w, pcode w with
  | 0b000111#6, 0b00001#5 => some (.ldm32 (f25 w) (f20 w) (f4 w))
  | _, _ => none

/-- Major opcode `110101`, STM (R145, R450). -/
def decodeStm (w : Word) : Option Instr :=
  match sop6 w, pcode w with
  | 0b000111#6, 0b00001#5 => some (.stm32 (f25 w) (f20 w) (f4 w))
  | _, _ => none

/-- A 32-bit instruction, by its major opcode (R145); `none` is an encoding that is no instruction (R155). -/
def decode32 (w : Word) : Option Instr :=
  match op6 w with
  | 0b110000#6 => decodeSystem32 w
  | 0b110001#6 => decodeAlu32 w
  | 0b110100#6 => decodeLdm w
  | 0b110101#6 => decodeStm w
  | 0b110110#6 => decodeLoad32 w
  | 0b110111#6 => decodeStore32 w
  | 0b111000#6 => some (.bsr32 (off26 w))
  | 0b111001#6 => decodeImm12 w
  | 0b111010#6 => decodeImm16 w
  | 0b111011#6 => some (.ori32 (f25 w) (f20 w) (imm16 w))
  | _ => none

/-! ### Fields of the 16-bit formats (R138 to R140) -/

/-- Bits 15:11. -/
def h11 (h : Half) : BitVec 5 := h.extractLsb' 11 5
/-- Bit 10. -/
def h10 (h : Half) : BitVec 1 := h.extractLsb' 10 1
/-- Bits 10:8, a 3-bit register field or IMM3. -/
def h8 (h : Half) : BitVec 3 := h.extractLsb' 8 3
/-- Bits 9:8, IMM2. -/
def h98 (h : Half) : BitVec 2 := h.extractLsb' 8 2
/-- Bits 9:6, a 4-bit register field. -/
def h6 (h : Half) : BitVec 4 := h.extractLsb' 6 4
/-- Bits 7:5, a 3-bit register field or SOP. -/
def h5 (h : Half) : BitVec 3 := h.extractLsb' 5 3
/-- Bits 5:2, a 4-bit register field. -/
def h52 (h : Half) : BitVec 4 := h.extractLsb' 2 4
/-- Bits 4:2, a 3-bit register field or IMM3. -/
def h42 (h : Half) : BitVec 3 := h.extractLsb' 2 3
/-- Bits 1:0, SOP. -/
def h1 (h : Half) : BitVec 2 := h.extractLsb' 0 2
/-- Bits 4:0, IMM5. -/
def h4 (h : Half) : BitVec 5 := h.extractLsb' 0 5
/-- Bits 7:0, IMM8. -/
def h7 (h : Half) : BitVec 8 := h.extractLsb' 0 8
/-- Bits 9:0, the offset of the 16-bit J type. -/
def h9 (h : Half) : BitVec 10 := h.extractLsb' 0 10
/-- Bit 4, the R15 bit of a register list. -/
def hR15 (h : Half) : BitVec 1 := h.extractLsb' 4 1
/-- Bits 3:0, LIST1 of a register list. -/
def hList1 (h : Half) : BitVec 4 := h.extractLsb' 0 4

/-! ### The 16-bit map (R144, R156) -/

/-- Bits 15:10 = 000101: stack and interrupt-nesting instructions (R144, R460). -/
def decodeStack16 (h : Half) : Option Instr :=
  match h5 h with
  | 0b000#3 => some (.addi16sp (h98 h ++ h4 h))
  | 0b001#3 => some (.subi16sp (h98 h ++ h4 h))
  | 0b010#3 => none
  | 0b011#3 =>
    match h4 h with
    | 0b00000#5 => ifZero (h98 h) .nie16
    | 0b00001#5 => ifZero (h98 h) .nir16
    | 0b00010#5 => ifZero (h98 h) .ipush16
    | 0b00011#5 => ifZero (h98 h) .ipop16
    | _ => none
  | 0b100#3 => (ifZero (h98 h) (.pop16 (hR15 h) (hList1 h))).bind ifWellFormed
  | 0b101#3 =>
    match h1 h with
    | 0b00#2 => ifZero (h98 h) (.bpop16h (h42 h))
    | 0b10#2 => ifZero (h98 h) (.bpop16w (h42 h))
    | _ => none
  | 0b110#3 => (ifZero (h98 h) (.push16 (hR15 h) (hList1 h))).bind ifWellFormed
  | 0b111#3 =>
    match h1 h with
    | 0b00#2 => ifZero (h98 h) (.bpush16h (h42 h))
    | 0b10#2 => ifZero (h98 h) (.bpush16w (h42 h))
    | _ => none

/-- Bits 15:11 = 00111: immediate compare, bit instructions and JMPIX (R144). -/
def decodeCompareImm16 (h : Half) : Option Instr :=
  match h5 h with
  | 0b000#3 => some (.cmphsi16 (h8 h) (h4 h))
  | 0b001#3 => some (.cmplti16 (h8 h) (h4 h))
  | 0b010#3 => some (.cmpnei16 (h8 h) (h4 h))
  | 0b011#3 => none
  | 0b100#3 => some (.bclri16 (h8 h) (h4 h))
  | 0b101#3 => some (.bseti16 (h8 h) (h4 h))
  | 0b110#3 => some (.btsti16 (h8 h) (h4 h))
  | 0b111#3 => ifZero (h42 h) (.jmpix16 (h8 h) (h1 h))

/-- Bits 15:11 = 01011: three-operand and imm3 forms (R144). -/
def decodeThree16 (h : Half) : Option Instr :=
  match h1 h with
  | 0b00#2 => some (.addu16r3 (h5 h) (h8 h) (h42 h))
  | 0b01#2 => some (.subu16r3 (h5 h) (h8 h) (h42 h))
  | 0b10#2 => some (.addi16i3 (h5 h) (h8 h) (h42 h))
  | 0b11#2 => some (.subi16i3 (h5 h) (h8 h) (h42 h))

/-- Bits 15:12 = 0110 and 0111: the two-operand and one-operand forms, by bits 11:10 and 1:0 (R140, R144). -/
def decodeTwo16 (h : Half) : Option Instr :=
  match h11 h, h10 h, h1 h with
  | 0b01100#5, 0#1, 0b00#2 => some (.addu16 (h6 h) (h52 h))
  | 0b01100#5, 0#1, 0b01#2 => some (.addc16 (h6 h) (h52 h))
  | 0b01100#5, 0#1, 0b10#2 => some (.subu16 (h6 h) (h52 h))
  | 0b01100#5, 0#1, 0b11#2 => some (.subc16 (h6 h) (h52 h))
  | 0b01100#5, 1#1, 0b00#2 => some (.cmphs16 (h52 h) (h6 h))
  | 0b01100#5, 1#1, 0b01#2 => some (.cmplt16 (h52 h) (h6 h))
  | 0b01100#5, 1#1, 0b10#2 => some (.cmpne16 (h52 h) (h6 h))
  | 0b01100#5, 1#1, 0b11#2 => ifZero (h52 h) (.mvcv16 (h6 h))
  | 0b01101#5, 0#1, 0b00#2 => some (.and16 (h6 h) (h52 h))
  | 0b01101#5, 0#1, 0b01#2 => some (.andn16 (h6 h) (h52 h))
  | 0b01101#5, 0#1, 0b10#2 => some (.tst16 (h52 h) (h6 h))
  | 0b01101#5, 0#1, 0b11#2 => ifZero (h6 h) (.tstnbz16 (h52 h))
  | 0b01101#5, 1#1, 0b00#2 => some (.or16 (h6 h) (h52 h))
  | 0b01101#5, 1#1, 0b01#2 => some (.xor16 (h6 h) (h52 h))
  | 0b01101#5, 1#1, 0b10#2 => some (.nor16 (h6 h) (h52 h))
  | 0b01101#5, 1#1, 0b11#2 => some (.mov16 (h6 h) (h52 h))
  | 0b01110#5, 0#1, 0b00#2 => some (.lsl16 (h6 h) (h52 h))
  | 0b01110#5, 0#1, 0b01#2 => some (.lsr16 (h6 h) (h52 h))
  | 0b01110#5, 0#1, 0b10#2 => some (.asr16 (h6 h) (h52 h))
  | 0b01110#5, 0#1, 0b11#2 => some (.rotl16 (h6 h) (h52 h))
  | 0b01110#5, 1#1, 0b00#2 => some (.zextb16 (h6 h) (h52 h))
  | 0b01110#5, 1#1, 0b01#2 => some (.zexth16 (h6 h) (h52 h))
  | 0b01110#5, 1#1, 0b10#2 => some (.sextb16 (h6 h) (h52 h))
  | 0b01110#5, 1#1, 0b11#2 => some (.sexth16 (h6 h) (h52 h))
  | 0b01111#5, 0#1, 0b00#2 => ifZero (h6 h) (.jmp16 (h52 h))
  | 0b01111#5, 0#1, 0b01#2 => ifZero (h6 h) (.jsr16 (h52 h))
  | 0b01111#5, 0#1, 0b10#2 => some (.revb16 (h6 h) (h52 h))
  | 0b01111#5, 0#1, 0b11#2 => some (.revh16 (h6 h) (h52 h))
  | 0b01111#5, 1#1, 0b00#2 => some (.mult16 (h6 h) (h52 h))
  | _, _, _ => none

/-- The word offset of `lrw16` from IMM1 and `{IMM2, IMM5}` (R143): complemented when IMM1 = 0. -/
def lrw16Offset (imm1 : BitVec 1) (imm7 : BitVec 7) : BitVec 8 :=
  if imm1 = 1 then 0#1 ++ imm7 else 1#1 ++ ~~~imm7

/-- A 16-bit instruction (R144); `none` is a halfword that is no instruction (R156), or the first halfword of a
32-bit instruction. -/
def decode16 (h : Half) : Option Instr :=
  match h11 h, h10 h with
  | 0b00000#5, 0#1 => if h = 0 then some .bkpt16 else some (.lrw16 (h5 h) (lrw16Offset 0 (h98 h ++ h4 h)))
  | 0b00000#5, 1#1 => some (.br16 (h9 h))
  | 0b00001#5, 0#1 => some (.bt16 (h9 h))
  | 0b00001#5, 1#1 => some (.bf16 (h9 h))
  | 0b00010#5, 0#1 => some (.lrw16 (h5 h) (lrw16Offset 1 (h98 h ++ h4 h)))
  | 0b00010#5, 1#1 => decodeStack16 h
  | 0b00011#5, _ => some (.addi16rsp (h8 h) (h7 h))
  | 0b00100#5, _ => some (.addi16i8 (h8 h) (h7 h))
  | 0b00101#5, _ => some (.subi16i8 (h8 h) (h7 h))
  | 0b00110#5, _ => some (.movi16 (h8 h) (h7 h))
  | 0b00111#5, _ => decodeCompareImm16 h
  | 0b01000#5, _ => some (.lsli16 (h5 h) (h8 h) (h4 h))
  | 0b01001#5, _ => some (.lsri16 (h5 h) (h8 h) (h4 h))
  | 0b01010#5, _ => some (.asri16 (h5 h) (h8 h) (h4 h))
  | 0b01011#5, _ => decodeThree16 h
  | 0b01100#5, _ => decodeTwo16 h
  | 0b01101#5, _ => decodeTwo16 h
  | 0b01110#5, _ => decodeTwo16 h
  | 0b01111#5, _ => decodeTwo16 h
  | 0b10000#5, _ => some (.ld16b (h5 h) (h8 h) (h4 h))
  | 0b10001#5, _ => some (.ld16h (h5 h) (h8 h) (h4 h))
  | 0b10010#5, _ => some (.ld16w (h5 h) (h8 h) (h4 h))
  | 0b10011#5, _ => some (.ld16wsp (h5 h) (h8 h ++ h4 h))
  | 0b10100#5, _ => some (.st16b (h5 h) (h8 h) (h4 h))
  | 0b10101#5, _ => some (.st16h (h5 h) (h8 h) (h4 h))
  | 0b10110#5, _ => some (.st16w (h5 h) (h8 h) (h4 h))
  | 0b10111#5, _ => some (.st16wsp (h5 h) (h8 h ++ h4 h))
  | _, _ => none

/-! ### The decoder -/

/-- A first halfword that starts a 32-bit instruction: bits 15:14 are `11` (R131). -/
def isLong (h : Half) : Bool := h.extractLsb' 14 2 == 0b11#2

/-- What a decoder finds at the front of a list of halfwords. -/
inductive Decoded
  /-- The instruction, and the halfwords after it. -/
  | instr (i : Instr) (rest : List Half)
  /-- A halfword that is no instruction (R156): an illegal instruction. -/
  | illegal16 (h : Half)
  /-- A 32-bit value that is no instruction (R155): an illegal instruction. -/
  | illegal32 (w : Word)
  /-- No halfword, or the first half only of a 32-bit encoding. -/
  | truncated
  deriving DecidableEq, Repr

/-- Decodes the instruction at the front of the halfwords in fetch order: the halfword at the lower address comes
first and holds bits 31:16 of a 32-bit instruction (R132, R170). -/
def decode : List Half → Decoded
  | [] => .truncated
  | h :: rest =>
    if isLong h then
      match rest with
      | [] => .truncated
      | l :: rest' =>
        match decode32 (h ++ l) with
        | some i => .instr i rest'
        | none => .illegal32 (h ++ l)
    else
      match decode16 h with
      | some i => .instr i rest
      | none => .illegal16 h

/-- The halfwords of opcode_table.json's numbering, in fetch order: a 32-bit row is one 32-bit number whose bits 31:16
are the halfword at the lower address (30_encoding, opening); a 16-bit row is one halfword, with a halfword of
zeros after it. -/
def tableHalves (nbits w : Nat) : List Half :=
  if nbits ≤ 16 then [BitVec.ofNat 16 w, 0#16] else [BitVec.ofNat 16 (w / 65536), BitVec.ofNat 16 w]

/-- The instruction the decoder reads from the bits `w` of a row of the opcode table. -/
def decodeTableWord (nbits w : Nat) : Option Instr :=
  match decode (tableHalves nbits w) with
  | .instr i _ => some i
  | _ => none

/-! ### The encoder -/

/-- The 32-bit R type: OP, bits 25:21, bits 20:16, SOP, Pcode, bits 4:0 (R137). -/
def r32 (op : BitVec 6) (a b : BitVec 5) (sop : BitVec 6) (pc z : BitVec 5) : Word :=
  op ++ a ++ b ++ sop ++ pc ++ z
/-- The 32-bit I type with a 12-bit immediate (R136). -/
def i12 (op : BitVec 6) (a b : BitVec 5) (sop : BitVec 4) (imm : BitVec 12) : Word := op ++ a ++ b ++ sop ++ imm
/-- The 32-bit I type with a 16-bit immediate (R135). -/
def i16 (op : BitVec 6) (a b : BitVec 5) (imm : BitVec 16) : Word := op ++ a ++ b ++ imm
/-- The 32-bit J type (R134). -/
def j26 (op : BitVec 6) (off : BitVec 26) : Word := op ++ off
/-- The 16-bit J type (R138): bits 15:11, bit 10, offset. -/
def j10 (op : BitVec 5) (b : BitVec 1) (off : BitVec 10) : Half := op ++ b ++ off
/-- The 16-bit imm7 layout (R139): bits 15:11, bit 10, IMM2, bits 7:5, bits 4:0. -/
def s16 (op : BitVec 5) (b : BitVec 1) (i2 : BitVec 2) (s : BitVec 3) (i5 : BitVec 5) : Half :=
  op ++ b ++ i2 ++ s ++ i5
/-- The 16-bit imm8 layout (R139): bits 15:11, bits 10:8, IMM8. -/
def i8 (op : BitVec 5) (z : BitVec 3) (imm : BitVec 8) : Half := op ++ z ++ imm
/-- The 16-bit imm5 layouts (R139): bits 15:11, bits 10:8, bits 7:5, IMM5. -/
def i5 (op : BitVec 5) (a b : BitVec 3) (imm : BitVec 5) : Half := op ++ a ++ b ++ imm
/-- The 16-bit three-operand layout (R139, R140): bits 15:11, 10:8, 7:5, 4:2, 1:0. -/
def t16 (op : BitVec 5) (a b c : BitVec 3) (sop : BitVec 2) : Half := op ++ a ++ b ++ c ++ sop
/-- The 16-bit two-operand layout (R140): bits 15:11, 10, 9:6, 5:2, 1:0. -/
def d16 (op : BitVec 5) (b : BitVec 1) (a c : BitVec 4) (sop : BitVec 2) : Half := op ++ b ++ a ++ c ++ sop

/-- The encoding of an instruction: one halfword or one 32-bit value. -/
inductive Code
  | short (h : Half)
  | long (w : Word)
  deriving DecidableEq, Repr

/-- The seven low bits and IMM1 of `lrw16` from its word offset (R143). -/
def lrw16Code (rz : BitVec 3) (offset : BitVec 8) : Half :=
  if offset.getLsbD 7 then
    s16 0b00000#5 0#1 (~~~(offset.extractLsb' 5 2)) rz (~~~(offset.extractLsb' 0 5))
  else
    s16 0b00010#5 0#1 (offset.extractLsb' 5 2) rz (offset.extractLsb' 0 5)

/-- The encoding of each instruction, from the figures R134 to R149 collect. -/
def Instr.code : Instr → Code
  | .addu32 rz rx ry => .long (r32 0b110001#6 ry rx 0b000000#6 0b00001#5 rz)
  | .addc32 rz rx ry => .long (r32 0b110001#6 ry rx 0b000000#6 0b00010#5 rz)
  | .subu32 rz rx ry => .long (r32 0b110001#6 ry rx 0b000000#6 0b00100#5 rz)
  | .subc32 rz rx ry => .long (r32 0b110001#6 ry rx 0b000000#6 0b01000#5 rz)
  | .mvc32 rz => .long (r32 0b110001#6 0#5 0#5 0b000001#6 0b01000#5 rz)
  | .ixh32 rz rx ry => .long (r32 0b110001#6 ry rx 0b000010#6 0b00001#5 rz)
  | .ixw32 rz rx ry => .long (r32 0b110001#6 ry rx 0b000010#6 0b00010#5 rz)
  | .incf32 rz rx imm5 => .long (r32 0b110001#6 rz rx 0b000011#6 0b00001#5 imm5)
  | .inct32 rz rx imm5 => .long (r32 0b110001#6 rz rx 0b000011#6 0b00010#5 imm5)
  | .decf32 rz rx imm5 => .long (r32 0b110001#6 rz rx 0b000011#6 0b00100#5 imm5)
  | .dect32 rz rx imm5 => .long (r32 0b110001#6 rz rx 0b000011#6 0b01000#5 imm5)
  | .and32 rz rx ry => .long (r32 0b110001#6 ry rx 0b001000#6 0b00001#5 rz)
  | .andn32 rz rx ry => .long (r32 0b110001#6 ry rx 0b001000#6 0b00010#5 rz)
  | .or32 rz rx ry => .long (r32 0b110001#6 ry rx 0b001001#6 0b00001#5 rz)
  | .xor32 rz rx ry => .long (r32 0b110001#6 ry rx 0b001001#6 0b00010#5 rz)
  | .nor32 rz rx ry => .long (r32 0b110001#6 ry rx 0b001001#6 0b00100#5 rz)
  | .bclri32 rz rx imm5 => .long (r32 0b110001#6 imm5 rx 0b001010#6 0b00001#5 rz)
  | .bseti32 rz rx imm5 => .long (r32 0b110001#6 imm5 rx 0b001010#6 0b00010#5 rz)
  | .btsti32 rx imm5 => .long (r32 0b110001#6 imm5 rx 0b001010#6 0b00100#5 0#5)
  | .lsl32 rz rx ry => .long (r32 0b110001#6 ry rx 0b010000#6 0b00001#5 rz)
  | .lsr32 rz rx ry => .long (r32 0b110001#6 ry rx 0b010000#6 0b00010#5 rz)
  | .asr32 rz rx ry => .long (r32 0b110001#6 ry rx 0b010000#6 0b00100#5 rz)
  | .rotl32 rz rx ry => .long (r32 0b110001#6 ry rx 0b010000#6 0b01000#5 rz)
  | .lsli32 rz rx imm5 => .long (r32 0b110001#6 imm5 rx 0b010010#6 0b00001#5 rz)
  | .lsri32 rz rx imm5 => .long (r32 0b110001#6 imm5 rx 0b010010#6 0b00010#5 rz)
  | .asri32 rz rx imm5 => .long (r32 0b110001#6 imm5 rx 0b010010#6 0b00100#5 rz)
  | .rotli32 rz rx imm5 => .long (r32 0b110001#6 imm5 rx 0b010010#6 0b01000#5 rz)
  | .lslc32 rz rx imm5 => .long (r32 0b110001#6 imm5 rx 0b010011#6 0b00001#5 rz)
  | .lsrc32 rz rx imm5 => .long (r32 0b110001#6 imm5 rx 0b010011#6 0b00010#5 rz)
  | .asrc32 rz rx imm5 => .long (r32 0b110001#6 imm5 rx 0b010011#6 0b00100#5 rz)
  | .xsr32 rz rx imm5 => .long (r32 0b110001#6 imm5 rx 0b010011#6 0b01000#5 rz)
  | .bmaski32 rz imm5 => .long (r32 0b110001#6 imm5 0#5 0b010100#6 0b00001#5 rz)
  | .xtrb0 rz rx => .long (r32 0b110001#6 0#5 rx 0b011100#6 0b00001#5 rz)
  | .xtrb1 rz rx => .long (r32 0b110001#6 0#5 rx 0b011100#6 0b00010#5 rz)
  | .xtrb2 rz rx => .long (r32 0b110001#6 0#5 rx 0b011100#6 0b00100#5 rz)
  | .xtrb3 rz rx => .long (r32 0b110001#6 0#5 rx 0b011100#6 0b01000#5 rz)
  | .ff0 rz rx => .long (r32 0b110001#6 0#5 rx 0b011111#6 0b00001#5 rz)
  | .ff1 rz rx => .long (r32 0b110001#6 0#5 rx 0b011111#6 0b00010#5 rz)
  | .mult32 rz rx ry => .long (r32 0b110001#6 ry rx 0b100001#6 0b00001#5 rz)
  | .addi32 rz rx imm12 => .long (i12 0b111001#6 rz rx 0b0000#4 imm12)
  | .subi32 rz rx imm12 => .long (i12 0b111001#6 rz rx 0b0001#4 imm12)
  | .andi32 rz rx imm12 => .long (i12 0b111001#6 rz rx 0b0010#4 imm12)
  | .andni32 rz rx imm12 => .long (i12 0b111001#6 rz rx 0b0011#4 imm12)
  | .xori32 rz rx imm12 => .long (i12 0b111001#6 rz rx 0b0100#4 imm12)
  | .ld32b rz rx imm12 => .long (i12 0b110110#6 rz rx 0b0000#4 imm12)
  | .ld32h rz rx imm12 => .long (i12 0b110110#6 rz rx 0b0001#4 imm12)
  | .ld32w rz rx imm12 => .long (i12 0b110110#6 rz rx 0b0010#4 imm12)
  | .ld32bs rz rx imm12 => .long (i12 0b110110#6 rz rx 0b0100#4 imm12)
  | .ld32hs rz rx imm12 => .long (i12 0b110110#6 rz rx 0b0101#4 imm12)
  | .st32b rz rx imm12 => .long (i12 0b110111#6 rz rx 0b0000#4 imm12)
  | .st32h rz rx imm12 => .long (i12 0b110111#6 rz rx 0b0001#4 imm12)
  | .st32w rz rx imm12 => .long (i12 0b110111#6 rz rx 0b0010#4 imm12)
  | .br32 offset => .long (i16 0b111010#6 0b00000#5 0#5 offset)
  | .bf32 offset => .long (i16 0b111010#6 0b00010#5 0#5 offset)
  | .bt32 offset => .long (i16 0b111010#6 0b00011#5 0#5 offset)
  | .movi32 rz imm16 => .long (i16 0b111010#6 0b10000#5 rz imm16)
  | .movih32 rz imm16 => .long (i16 0b111010#6 0b10001#5 rz imm16)
  | .lrw32 rz offset => .long (i16 0b111010#6 0b10100#5 rz offset)
  | .cmphsi32 rx imm16 => .long (i16 0b111010#6 0b11000#5 rx imm16)
  | .cmplti32 rx imm16 => .long (i16 0b111010#6 0b11001#5 rx imm16)
  | .cmpnei32 rx imm16 => .long (i16 0b111010#6 0b11010#5 rx imm16)
  | .ori32 rz rx imm16 => .long (i16 0b111011#6 rz rx imm16)
  | .bsr32 offset => .long (j26 0b111000#6 offset)
  | .ldm32 ry rx imm5 => .long (r32 0b110100#6 ry rx 0b000111#6 0b00001#5 imm5)
  | .stm32 ry rx imm5 => .long (r32 0b110101#6 ry rx 0b000111#6 0b00001#5 imm5)
  | .sync32 => .long (r32 0b110000#6 0#5 0#5 0b000001#6 0b00001#5 0#5)
  | .bmset32 => .long (r32 0b110000#6 0#5 0#5 0b000100#6 0b00001#5 0#5)
  | .bmclr32 => .long (r32 0b110000#6 0#5 0#5 0b000101#6 0b00001#5 0#5)
  | .trap32 n => .long (r32 0b110000#6 0#5 0#5 (0b0010#4 ++ n) 0b00001#5 0#5)
  | .rte32 => .long (r32 0b110000#6 0#5 0#5 0b010000#6 0b00001#5 0#5)
  | .stop32 => .long (r32 0b110000#6 0#5 0#5 0b010010#6 0b00001#5 0#5)
  | .wait32 => .long (r32 0b110000#6 0#5 0#5 0b010011#6 0b00001#5 0#5)
  | .doze32 => .long (r32 0b110000#6 0#5 0#5 0b010100#6 0b00001#5 0#5)
  | .mfcr32 rz crx sel => .long (r32 0b110000#6 sel crx 0b011000#6 0b00001#5 rz)
  | .mtcr32 rx crz sel => .long (r32 0b110000#6 sel rx 0b011001#6 0b00001#5 crz)
  | .psrclr32 imm5 => .long (r32 0b110000#6 imm5 0#5 0b011100#6 0b00001#5 0#5)
  | .psrset32 imm5 => .long (r32 0b110000#6 imm5 0#5 0b011101#6 0b00001#5 0#5)
  | .bkpt16 => .short (0x0000#16)
  | .lrw16 rz offset => .short (lrw16Code rz offset)
  | .br16 offset => .short (j10 0b00000#5 1#1 offset)
  | .bt16 offset => .short (j10 0b00001#5 0#1 offset)
  | .bf16 offset => .short (j10 0b00001#5 1#1 offset)
  | .addi16sp imm7 => .short (s16 0b00010#5 1#1 (imm7.extractLsb' 5 2) 0b000#3 (imm7.extractLsb' 0 5))
  | .subi16sp imm7 => .short (s16 0b00010#5 1#1 (imm7.extractLsb' 5 2) 0b001#3 (imm7.extractLsb' 0 5))
  | .nie16 => .short (s16 0b00010#5 1#1 0b00#2 0b011#3 0b00000#5)
  | .nir16 => .short (s16 0b00010#5 1#1 0b00#2 0b011#3 0b00001#5)
  | .ipush16 => .short (s16 0b00010#5 1#1 0b00#2 0b011#3 0b00010#5)
  | .ipop16 => .short (s16 0b00010#5 1#1 0b00#2 0b011#3 0b00011#5)
  | .pop16 r15 list1 => .short (s16 0b00010#5 1#1 0b00#2 0b100#3 (r15 ++ list1))
  | .push16 r15 list1 => .short (s16 0b00010#5 1#1 0b00#2 0b110#3 (r15 ++ list1))
  | .bpop16h rz => .short (s16 0b00010#5 1#1 0b00#2 0b101#3 (rz ++ 0b00#2))
  | .bpop16w rz => .short (s16 0b00010#5 1#1 0b00#2 0b101#3 (rz ++ 0b10#2))
  | .bpush16h rz => .short (s16 0b00010#5 1#1 0b00#2 0b111#3 (rz ++ 0b00#2))
  | .bpush16w rz => .short (s16 0b00010#5 1#1 0b00#2 0b111#3 (rz ++ 0b10#2))
  | .addi16rsp rz imm8 => .short (i8 0b00011#5 rz imm8)
  | .addi16i8 rz imm8 => .short (i8 0b00100#5 rz imm8)
  | .subi16i8 rz imm8 => .short (i8 0b00101#5 rz imm8)
  | .movi16 rz imm8 => .short (i8 0b00110#5 rz imm8)
  | .cmphsi16 rx imm5 => .short (i5 0b00111#5 rx 0b000#3 imm5)
  | .cmplti16 rx imm5 => .short (i5 0b00111#5 rx 0b001#3 imm5)
  | .cmpnei16 rx imm5 => .short (i5 0b00111#5 rx 0b010#3 imm5)
  | .bclri16 rz imm5 => .short (i5 0b00111#5 rz 0b100#3 imm5)
  | .bseti16 rz imm5 => .short (i5 0b00111#5 rz 0b101#3 imm5)
  | .btsti16 rx imm5 => .short (i5 0b00111#5 rx 0b110#3 imm5)
  | .jmpix16 rx imm2 => .short (i5 0b00111#5 rx 0b111#3 (0b000#3 ++ imm2))
  | .lsli16 rz rx imm5 => .short (i5 0b01000#5 rx rz imm5)
  | .lsri16 rz rx imm5 => .short (i5 0b01001#5 rx rz imm5)
  | .asri16 rz rx imm5 => .short (i5 0b01010#5 rx rz imm5)
  | .addu16r3 rz rx ry => .short (t16 0b01011#5 rx rz ry 0b00#2)
  | .subu16r3 rz rx ry => .short (t16 0b01011#5 rx rz ry 0b01#2)
  | .addi16i3 rz rx imm3 => .short (t16 0b01011#5 rx rz imm3 0b10#2)
  | .subi16i3 rz rx imm3 => .short (t16 0b01011#5 rx rz imm3 0b11#2)
  | .addu16 rz rx => .short (d16 0b01100#5 0#1 rz rx 0b00#2)
  | .addc16 rz rx => .short (d16 0b01100#5 0#1 rz rx 0b01#2)
  | .subu16 rz rx => .short (d16 0b01100#5 0#1 rz rx 0b10#2)
  | .subc16 rz rx => .short (d16 0b01100#5 0#1 rz rx 0b11#2)
  | .cmphs16 rx ry => .short (d16 0b01100#5 1#1 ry rx 0b00#2)
  | .cmplt16 rx ry => .short (d16 0b01100#5 1#1 ry rx 0b01#2)
  | .cmpne16 rx ry => .short (d16 0b01100#5 1#1 ry rx 0b10#2)
  | .mvcv16 rz => .short (d16 0b01100#5 1#1 rz 0#4 0b11#2)
  | .and16 rz rx => .short (d16 0b01101#5 0#1 rz rx 0b00#2)
  | .andn16 rz rx => .short (d16 0b01101#5 0#1 rz rx 0b01#2)
  | .tst16 rx ry => .short (d16 0b01101#5 0#1 ry rx 0b10#2)
  | .tstnbz16 rx => .short (d16 0b01101#5 0#1 0#4 rx 0b11#2)
  | .or16 rz rx => .short (d16 0b01101#5 1#1 rz rx 0b00#2)
  | .xor16 rz rx => .short (d16 0b01101#5 1#1 rz rx 0b01#2)
  | .nor16 rz rx => .short (d16 0b01101#5 1#1 rz rx 0b10#2)
  | .mov16 rz rx => .short (d16 0b01101#5 1#1 rz rx 0b11#2)
  | .lsl16 rz rx => .short (d16 0b01110#5 0#1 rz rx 0b00#2)
  | .lsr16 rz rx => .short (d16 0b01110#5 0#1 rz rx 0b01#2)
  | .asr16 rz rx => .short (d16 0b01110#5 0#1 rz rx 0b10#2)
  | .rotl16 rz rx => .short (d16 0b01110#5 0#1 rz rx 0b11#2)
  | .zextb16 rz rx => .short (d16 0b01110#5 1#1 rz rx 0b00#2)
  | .zexth16 rz rx => .short (d16 0b01110#5 1#1 rz rx 0b01#2)
  | .sextb16 rz rx => .short (d16 0b01110#5 1#1 rz rx 0b10#2)
  | .sexth16 rz rx => .short (d16 0b01110#5 1#1 rz rx 0b11#2)
  | .jmp16 rx => .short (d16 0b01111#5 0#1 0#4 rx 0b00#2)
  | .jsr16 rx => .short (d16 0b01111#5 0#1 0#4 rx 0b01#2)
  | .revb16 rz rx => .short (d16 0b01111#5 0#1 rz rx 0b10#2)
  | .revh16 rz rx => .short (d16 0b01111#5 0#1 rz rx 0b11#2)
  | .mult16 rz rx => .short (d16 0b01111#5 1#1 rz rx 0b00#2)
  | .ld16b rz rx imm5 => .short (i5 0b10000#5 rx rz imm5)
  | .ld16h rz rx imm5 => .short (i5 0b10001#5 rx rz imm5)
  | .ld16w rz rx imm5 => .short (i5 0b10010#5 rx rz imm5)
  | .st16b rz rx imm5 => .short (i5 0b10100#5 rx rz imm5)
  | .st16h rz rx imm5 => .short (i5 0b10101#5 rx rz imm5)
  | .st16w rz rx imm5 => .short (i5 0b10110#5 rx rz imm5)
  | .ld16wsp rz imm8 => .short (i5 0b10011#5 (imm8.extractLsb' 5 3) rz (imm8.extractLsb' 0 5))
  | .st16wsp rz imm8 => .short (i5 0b10111#5 (imm8.extractLsb' 5 3) rz (imm8.extractLsb' 0 5))

/-- The halfwords of an instruction in fetch order (R132). -/
def encode (i : Instr) : List Half :=
  match i.code with
  | .short h => [h]
  | .long w => [w.extractLsb' 16 16, w.extractLsb' 0 16]

/-- The length of an instruction in bytes: 2 or 4 (R130). -/
def Instr.length (i : Instr) : Nat :=
  match i.code with
  | .short _ => 2
  | .long _ => 4

end Sys2Proof
end

