-- ==== Sys2Proof/Machine/Flags.lean ====
section
/-! DEFINITION. What the instructions compute: results with the C bit where the spec gives one (10_state R28, R29), as
functions of values only. `Bool × …` never stands for a flag that is not written: an operation without a C in its result
leaves C alone. -/

namespace Sys2Proof.Machine

/-- The value of the C bit in arithmetic. -/
def carryIn (c : Bool) : Nat := if c then 1 else 0

/-- ADDC: the 33-bit sum; C is bit 32 (40_addsub R202). -/
def addWithCarry (a b : Word) (c : Bool) : Word × Bool :=
  (BitVec.ofNat 32 (a.toNat + b.toNat + carryIn c), decide (2 ^ 32 ≤ a.toNat + b.toNat + carryIn c))

/-- SUBC: `a - b - (1 - C)`; C is set when no borrow occurs (40_addsub R206). -/
def subWithBorrow (a b : Word) (c : Bool) : Word × Bool :=
  (a - b - BitVec.ofNat 32 (1 - carryIn c), decide (b.toNat + (1 - carryIn c) ≤ a.toNat))

/-- The amount of a shift by register: the low six bits (42_shift R270). -/
def shiftAmount (v : Word) : Nat := (v.extractLsb' 0 6).toNat

/-- The amount of a shift by a biased immediate: 1 to 32 (42_shift R270). -/
def biasedAmount (f : BitVec 5) : Nat := f.toNat + 1

/-- LSL by register: zero above 31 (42_shift R271). -/
def lslReg (v n : Word) : Word := if 31 < shiftAmount n then 0 else v <<< shiftAmount n

/-- LSR by register: zero above 31 (42_shift R274). -/
def lsrReg (v n : Word) : Word := if 31 < shiftAmount n then 0 else v >>> shiftAmount n

/-- ASR by register: the sign fills above 30 (42_shift R277). -/
def asrReg (v n : Word) : Word :=
  if 30 < shiftAmount n then (if v.msb then 0xFFFFFFFF#32 else 0) else v.sshiftRight (shiftAmount n)

/-- Rotation to the left by 0 to 31 (42_shift R280). -/
def rotl (v : Word) (n : Nat) : Word := v <<< n ||| v >>> (32 - n)

/-- ROTL by register: zero above 31, no rotation modulo 32 (42_shift R280, 93 U7). -/
def rotlReg (v n : Word) : Word := if 31 < shiftAmount n then 0 else rotl v (shiftAmount n)

/-- LSLC: the last bit shifted out goes to C (42_shift R273). -/
def lslCarry (v : Word) (n : Nat) : Word × Bool := (v <<< n, v.getLsbD (32 - n))

/-- LSRC (42_shift R276). -/
def lsrCarry (v : Word) (n : Nat) : Word × Bool := (v >>> n, v.getLsbD (n - 1))

/-- ASRC: at 32 the sign fills (42_shift R279). -/
def asrCarry (v : Word) (n : Nat) : Word × Bool := (v.sshiftRight n, v.getLsbD (n - 1))

/-- XSR: `{RX, C}` rotated right by `n` within 33 bits (42_shift R282). -/
def extendedShiftRight (v : Word) (c : Bool) (n : Nat) : Word × Bool :=
  let x : BitVec 33 := v ++ BitVec.ofBool c
  let r : BitVec 33 := x >>> n ||| x <<< (33 - n)
  (r.extractLsb' 1 32, r.getLsbD 0)

/-- TSTNBZ: no byte is zero (43_compare R318). -/
def noZeroByte (v : Word) : Bool :=
  v.extractLsb' 24 8 != 0 && v.extractLsb' 16 8 != 0 && v.extractLsb' 8 8 != 0 && v.extractLsb' 0 8 != 0

/-- XTRB: the byte whose lowest bit is `lo`, zero-extended; C tells that it is not zero (44 R359 to R362). -/
def extractByte (v : Word) (lo : Nat) : Word × Bool :=
  ((v.extractLsb' lo 8).zeroExtend 32, v.extractLsb' lo 8 != 0)

/-- REVB (44 R363). -/
def revBytes (v : Word) : Word :=
  v.extractLsb' 0 8 ++ v.extractLsb' 8 8 ++ v.extractLsb' 16 8 ++ v.extractLsb' 24 8

/-- REVH (44 R364). -/
def revHalves (v : Word) : Word :=
  v.extractLsb' 16 8 ++ v.extractLsb' 24 8 ++ v.extractLsb' 0 8 ++ v.extractLsb' 8 8

/-- How many bits equal to `b` stand in a row from bit `n - 1` downward. -/
def leadingRun (b : Bool) (v : Word) : Nat → Nat
  | 0 => 0
  | n + 1 => if v.getLsbD n = b then leadingRun b v n + 1 else 0

/-- FF0: the number of consecutive ones from bit 31 down (44 R365). -/
def findFirst0 (v : Word) : Word := BitVec.ofNat 32 (leadingRun true v 32)

/-- FF1: the number of consecutive zeros from bit 31 down (44 R366). -/
def findFirst1 (v : Word) : Word := BitVec.ofNat 32 (leadingRun false v 32)

end Sys2Proof.Machine
end

