-- ==== Sys2Proof/Config.lean ====
section
/-! DEFINITION. What the hardware leaves to configuration (00_scope R8) and to the platform (20_memory R99), as
plain data that `State` carries unchanged (log 3, log 8); and the one free value of the model (log 6). -/

namespace Sys2Proof

/-- `CACHE_SIZE` of 00_scope R8. -/
inductive CacheSize
  | none | kb2 | kb4 | kb8
  deriving DecidableEq, Repr

/-- The kinds of access the MPU and the bus distinguish (20_memory R99, R113). -/
inductive AccessKind
  | fetch | read | write
  deriving DecidableEq, Repr

/-- A range of addresses, both ends included, where the platform answers accesses of one kind with an error
response (20_memory R99: `BusError(addr, kind)`; log 8). -/
structure BusErrorRange where
  lo : Word
  hi : Word
  kind : AccessKind
  deriving DecidableEq, Repr

/-- The number of interrupt sources of the VIC, `VIC_SOURCES` (00_scope R8, 60_exceptions R650). -/
inductive VicSources
  | s1 | s2 | s4 | s8 | s16 | s24 | s32
  deriving DecidableEq, Repr

/-- The implementation parameters of 00_scope R8, fixed for a run. -/
structure Config where
  /-- `BIG_ENDIAN`, shown as CCR.BE (20_memory R85). -/
  bigEndian : Bool
  /-- `BE_V2`, a readable bit of CCR without effect on any access (92 D2). -/
  beV2 : Bool
  /-- `SCK`, read back in CCR only (10_state R49). -/
  sck : BitVec 3
  /-- `MPU_REGIONS`, 0 to 8 (20_memory R110). -/
  mpuRegions : Fin 9
  /-- `HAS_VBR` (10_state R44). -/
  hasVbr : Bool
  /-- `HAS_BCTM`, the binary code translation mechanism (10_state R23). -/
  hasBctm : Bool
  /-- `GCR_WIDTH`, 0 to 32 (10_state R46). -/
  gcrWidth : Fin 33
  /-- `GSR_WIDTH`, 0 to 32 (10_state R47). -/
  gsrWidth : Fin 33
  /-- `CPUIDR_VALUE` (10_state R48). -/
  cpuidr : Word
  /-- `SRCR_MAGIC` (10_state R60). -/
  srcrMagic : Word
  /-- `HW_UNALIGNED` (20_memory R91). -/
  hwUnaligned : Bool
  /-- `MULT_CYCLES` minus 1, 0 to 32; no effect on results (92 D35). -/
  multCyclesMinus1 : Fin 33
  /-- `FAST_RETIRE`; no effect on results (92 D35). -/
  fastRetire : Bool
  /-- `CACHE_SIZE` (20_memory R122, R123). -/
  cacheSize : CacheSize
  /-- `HAS_DEBUG`, the on-chip debug interface (60_exceptions R660). -/
  hasDebug : Bool
  /-- `HAS_SECURITY`; named only by the spec, no behaviour (60_exceptions R654). -/
  hasSecurity : Bool
  /-- `VIC_SOURCES`; the VIC is part of the environment (60_exceptions R650). -/
  vicSources : VicSources
  /-- `SEPARATE_BUSES`; no effect on results (70_reset R727). DESIGN CHOICE, safe, log 3: 00_scope R8 says "configurable; no
  values given", and the two values, one bus or two, are the model's. -/
  separateBuses : Bool
  /-- The platform's error answers, `BusError(addr, kind)` of 20_memory R99. -/
  busErrors : List BusErrorRange
  deriving DecidableEq, Repr

/-- The configuration `State.reset` carries: one concrete choice among those 00_scope R8 allows, with every
optional unit of the core present and no cache. DESIGN CHOICE, unsafe, log 3: a statement about every state holds for every
configuration, a run from `State.reset` only for this one. -/
def Config.atReset : Config where
  bigEndian := false
  beV2 := false
  sck := 0#3
  mpuRegions := 8
  hasVbr := true
  hasBctm := true
  gcrWidth := 32
  gsrWidth := 32
  cpuidr := 0#32
  srcrMagic := 0xABCD1234#32
  hwUnaligned := false
  multCyclesMinus1 := 0
  fastRetire := false
  cacheSize := .none
  hasDebug := true
  hasSecurity := false
  vicSources := .s32
  separateBuses := false
  busErrors := []

/-- The free values of the model: the k-th value the spec leaves open in a run (`any value` of
93_implementation_defined). No body, so nothing can be proved of any of them. DESIGN CHOICE, safe, log 6. -/
opaque Config.freeWord : Nat → Word

end Sys2Proof
end

