-- ==== Sys2Proof/Machine/State.lean ====
section
/-! DEFINITION. The state of the CK802 as plain data (10_state), the environment's inputs (00_scope R9; log 7), the
reasons a step stops, and the state after reset (10_state R70). -/

namespace Sys2Proof.Machine

/-! ### Why a step stops -/

/-- The machine is stuck: it makes no further step. -/
inductive Fault
  /-- The word of an exception vector could not be read (bus error, or MPU denial of a supervisor fetch). Raised by
  taking an exception or an interrupt. Safe: no claim is possible after it (93 U4, 92 D17; log 16). -/
  | vectorRead
  /-- The reset vector at address 0 could not be read. Raised by reset. Safe (93 U4, 92 D17; log 16). -/
  | resetVectorRead
  deriving DecidableEq, Repr

/-- The spec refuses to say what happens (treatment `refuse` of 93_implementation_defined). -/
inductive Refusal
  /-- The instruction has no meaning in this model yet. No arm of `exec` raises it. Safe. -/
  | notModelled (mnemonic : String)
  /-- A 5-bit register field, or an LDM/STM list, names a register the core does not have. Raised by 32-bit
  instructions. Safe (92 D21, 93 U10; log 22). -/
  | noSuchRegister
  /-- MFCR or MTCR names a control register that is not implemented. Raised by MFCR and MTCR. Safe (92 D20, 93 U11;
  log 27). -/
  | noSuchControlRegister
  /-- `bmaski32` with a field of 0 to 15. Raised by BMASKI. Safe (92 D36, 93 U9; log 24). -/
  | bmaskiFieldExcluded
  /-- An access is checked while CCR.MP is 10 or 11. Raised by every access. Safe (93 U6; log 15). -/
  | mpuModeUndefined
  /-- An access is checked while an enabled region has a reserved size or a base not aligned to its size. Raised by
  every access. Safe (92 D28, 93 U1, U2; log 15). -/
  | mpuRegionMalformed
  /-- An MTCR has enabled the MPU with no region enabled, or from an address the new settings do not let be fetched. The
  MTCR itself completes; raised at the boundary after it. Safe (92 D32, 93 U3; log 15). -/
  | mpuEnableUnsafe
  /-- The environment presents an interrupt vector below 32. Raised by taking an interrupt. Safe (92 D19, 93 U17;
  log 18). -/
  | interruptVectorReserved
  /-- On a core with a cache, bytes that the program has stored, or that the debug host has written (the model's choice,
  log 28), are fetched. Raised by instruction fetch. Safe (92 D12, 93 U20; log 28). -/
  | cachedCodeRewritten
  deriving DecidableEq, Repr

/-! ### The pieces of the state -/

/-- A place in the register file. 0 to 13: R0 to R13; 14: R14(spv); 15: R15; 16: R14(user); 17, 18, 19, 20: R23 FP',
R24 TOP, R25 BSP, R30 SVBR (10_state R20 to R23). -/
abbrev Slot := Fin 21

/-- PSR, field by field (10_state R33). Reserved bits are not held: they read 0 (R43). -/
structure Psr where
  /-- Bit 31, supervisor mode (R34). -/
  s : Bool
  /-- Bits 23:16, the vector number of the exception being handled (R35). -/
  vec : Byte
  /-- Bit 9, misalignment exception mask (R36). -/
  mm : Bool
  /-- Bit 8, exception enable (R37). -/
  ee : Bool
  /-- Bit 7, interrupt control: multi-cycle instructions may be interrupted (R38). -/
  ic : Bool
  /-- Bit 6, interrupt enable (R39). -/
  ie : Bool
  /-- Bit 2, binary code translation mode (R40). -/
  bm : Bool
  /-- Bit 0, the condition and carry bit (R28, R41). -/
  c : Bool
  deriving DecidableEq, Repr

/-- The three low-power modes (60_exceptions R640, R642). -/
inductive LowPower
  | wait | doze | stop
  deriving DecidableEq, Repr

/-- The operating mode (10_state R64). -/
inductive Mode
  | normal
  | lowPower (kind : LowPower)
  | debug
  deriving DecidableEq, Repr

/-- Whether a reset still has work to do (70_reset R702, 10_state R62). -/
inductive ResetPhase
  /-- No reset is in progress. -/
  | running
  /-- The registers are reset; the reset vector is read by the next step (log 5). -/
  | vectorPending
  /-- A software reset was executed in debug mode; it happens when debug mode is left (10_state R62). -/
  | onDebugExit
  deriving DecidableEq, Repr

/-- One action of the debug host while the core is in debug mode (60_exceptions R661, R662; log 30). -/
inductive DebugCmd
  /-- No action. -/
  | idle
  /-- Writes a general register. -/
  | writeReg (slot : Slot) (value : Word)
  /-- Writes the PC; bit 0 stays 0. -/
  | writePc (value : Word)
  /-- Writes a control register, as MTCR writes it. -/
  | writeCr (number sel : BitVec 5) (value : Word)
  /-- Writes a byte of memory; on a core with a cache it counts as stored (log 28). -/
  | writeByte (address : Word) (value : Byte)
  /-- Leaves debug mode (R662). -/
  | resume
  deriving DecidableEq, Repr

/-- What the environment presents to the core at one boundary (00_scope R9; 60_exceptions R629, R632; log 7). -/
structure Inputs where
  /-- The reset input is asserted (70_reset R700). -/
  reset : Bool
  /-- The debug unit requests debug mode: HCR.ADR, HCR.DR, trace or a memory breakpoint (60_exceptions R660). -/
  debugReq : Bool
  /-- The debug unit's CSR.FDB: BKPT enters debug mode (60_exceptions R660, R625). -/
  fdb : Bool
  /-- A visible interrupt request with its vector number (60_exceptions R628, R629). -/
  intReq : Option Byte
  /-- The raw interrupt request `pad_sysio_intraw_b` that ends a low-power mode (60_exceptions R641). -/
  intRaw : Bool
  /-- A request that becomes visible after that many accesses of a multi-access instruction (60_exceptions R633; log 19). -/
  midIrq : Option (Nat × Byte)
  /-- The pins GSR reads (10_state R47). -/
  gsr : Word
  /-- What the debug host does if the core is in debug mode. -/
  debugCmd : DebugCmd
  deriving DecidableEq, Repr

/-- An environment that presents nothing. -/
def Inputs.quiet : Inputs where
  reset := false
  debugReq := false
  fdb := false
  intReq := none
  intRaw := false
  midIrq := none
  gsr := 0
  debugCmd := .idle

/-- Memory: the listed bytes, addresses strictly rising, none equal to what an unlisted address reads as
(20_memory R80; log 4). -/
abbrev Memory := List Host.Cell

/-! ### The state -/

/-- Everything the spec gives the machine, the environment's inputs, and the model's own counters. -/
structure State where
  /-- The general registers (10_state R20 to R23). -/
  gpr : Vector Word 21
  /-- The program counter: the address of the instruction being executed; bit 0 is 0 (10_state R25). -/
  pc : Word
  /-- CR<0,0> (10_state R33). -/
  psr : Psr
  /-- CR<1,0>, bits 9:0 are 0 (10_state R44). -/
  vbr : Word
  /-- CR<2,0> (10_state R45). -/
  epsr : Word
  /-- CR<4,0> (10_state R45). -/
  epc : Word
  /-- CR<11,0>, the `gcrWidth` low bits (10_state R46). -/
  gcr : Word
  /-- CCR.MP, bits 1:0 of CR<18,0> (10_state R49). -/
  mp : BitVec 2
  /-- CR<19,0> (10_state R50). -/
  capr : Word
  /-- CR<20,0>, one per region (10_state R52). -/
  pacr : Vector Word 8
  /-- PRSR.RID, bits 2:0 of CR<21,0> (10_state R51). -/
  rid : BitVec 3
  /-- Memory (10_state R66). -/
  mem : Memory
  /-- The operating mode (10_state R64). -/
  mode : Mode
  /-- Reset in progress, if any (70_reset R702). -/
  resetPhase : ResetPhase
  /-- How often the software-reset flag signal has been raised (10_state R62). -/
  softResets : Nat
  /-- MODEL: addresses stored to on a core with a cache, by the program or by the debug host (92 D12; log 28). -/
  written : List Nat
  /-- MODEL: an MTCR has enabled the MPU against 20_memory R115, so that nothing is said of the run from here on
  (92 D32; log 15). -/
  mpuUnsafe : Bool
  /-- MODEL: how many free values have been drawn (log 6). -/
  freeCount : Nat
  /-- MODEL: what the environment presents at this boundary (log 7). -/
  inputs : Inputs
  /-- MODEL: what the environment presents at the following boundaries (log 7). -/
  schedule : List Inputs
  /-- The configuration, fixed for a run (00_scope R8; log 3). -/
  cfg : Config
  deriving DecidableEq, Repr

/-- An outcome of this machine. -/
abbrev Outcome := Host.Outcome State Fault Refusal

/-- PSR after reset: 0x80000000 (10_state R33, R70). -/
def Psr.reset : Psr where
  s := true
  vec := 0
  mm := false
  ee := false
  ic := false
  ie := false
  bm := false
  c := false

/-- The machine right after power-on reset (10_state R70, 70_reset R701): PSR, VBR, CCR.MP, CAPR, PACR.E as the spec
states; the reset vector is still to be read (log 5). DESIGN CHOICE, unsafe: the general registers are 0 (log 1), and so are
EPSR, EPC, GCR, the PACR bases and sizes and PRSR.RID (log 2); the configuration is `Config.atReset` (log 3); the
environment is quiet (log 7). -/
def State.reset : State where
  gpr := Vector.replicate 21 0
  pc := 0
  psr := Psr.reset
  vbr := 0
  epsr := 0
  epc := 0
  gcr := 0
  mp := 0
  capr := 0
  pacr := Vector.replicate 8 0
  rid := 0
  mem := []
  mode := .normal
  resetPhase := .vectorPending
  softResets := 0
  written := []
  mpuUnsafe := false
  freeCount := 0
  inputs := Inputs.quiet
  schedule := []
  cfg := Config.atReset

end Sys2Proof.Machine
end

