-- ==== Sys2Proof/Machine/Memory.lean ====
section
/-! DEFINITION. Memory as a canonical list of bytes, and values of one, two and four bytes in the configured byte order
(20_memory R80 to R86). No check stands here: alignment, the MPU and the bus are in Access.lean. -/

namespace Sys2Proof.Machine

/-- What an address that is not listed reads as. The spec gives memory no contents at reset. DESIGN CHOICE, unsafe,
log 4. -/
def Memory.unlisted : Byte := 0

/-- The byte at an address given as a number. -/
def Memory.get : Memory → Nat → Byte
  | [], _ => Memory.unlisted
  | (k, b) :: rest, n => if n = k then b else Memory.get rest n

/-- A byte put in front of a canonical list: one equal to `unlisted` is not listed. -/
def Memory.cons (n : Nat) (b : Byte) (m : Memory) : Memory := if b = Memory.unlisted then m else (n, b) :: m

/-- Stores a byte, keeping the canonical form. -/
def Memory.set : Memory → Nat → Byte → Memory
  | [], n, b => Memory.cons n b []
  | (k, x) :: rest, n, b =>
    if n < k then Memory.cons n b ((k, x) :: rest)
    else if n = k then Memory.cons n b rest
    else (k, x) :: Memory.set rest n b

/-- Addresses from `lo` on strictly rising and below 2^32, and no entry equal to `unlisted`. -/
def Memory.wfFrom (lo : Nat) : Memory → Bool
  | [] => true
  | (k, b) :: rest => decide (lo ≤ k) && decide (k < 2 ^ 32) && decide (b ≠ Memory.unlisted) && Memory.wfFrom (k + 1) rest

/-- The canonical form (log 4). -/
def Memory.wf (m : Memory) : Bool := Memory.wfFrom 0 m

/-- The byte at an address. -/
def Memory.read (m : Memory) (a : Word) : Byte := Memory.get m a.toNat

/-- Stores a byte at an address. -/
def Memory.write (m : Memory) (a : Word) (b : Byte) : Memory := Memory.set m a.toNat b

/-- The width of a data access (20_memory R82). -/
inductive Width
  | byte | half | word
  deriving DecidableEq, Repr

/-- The number of bytes of an access. -/
def Width.bytes : Width → Nat
  | .byte => 1
  | .half => 2
  | .word => 4

/-- The addresses of `n` bytes from `a` on, modulo 2^32 (92 D4). -/
def byteAddresses (a : Word) : Nat → List Word
  | 0 => []
  | n + 1 => a :: byteAddresses (a + 1) n

/-- The value of bytes given least significant first. -/
def assemble : List Byte → Word
  | [] => 0
  | b :: rest => assemble rest <<< 8 ||| b.zeroExtend 32

/-- The `n` low bytes of a value, least significant first. -/
def disassemble (v : Word) : Nat → List Byte
  | 0 => []
  | n + 1 => v.extractLsb' 0 8 :: disassemble (v >>> 8) n

/-- Bytes in address order turned into bytes least significant first, and back: little endian has the least
significant byte at the lowest address (R83), big endian at the highest (R84). -/
def byteOrder (bigEndian : Bool) (bytes : List Byte) : List Byte := if bigEndian then bytes.reverse else bytes

/-- The value of `w.bytes` bytes from `a` on, zero-extended to 32 bits (R82 to R84). -/
def Memory.load (bigEndian : Bool) (m : Memory) (a : Word) (w : Width) : Word :=
  assemble (byteOrder bigEndian ((byteAddresses a w.bytes).map m.read))

/-- Stores the bytes of a list at the addresses of another. -/
def Memory.writeBytes (m : Memory) : List (Word × Byte) → Memory
  | [] => m
  | (a, b) :: rest => Memory.writeBytes (m.write a b) rest

/-- Stores the `w.bytes` low bytes of `v` from `a` on (R83, R84). -/
def Memory.store (bigEndian : Bool) (m : Memory) (a : Word) (w : Width) (v : Word) : Memory :=
  m.writeBytes ((byteAddresses a w.bytes).zip (byteOrder bigEndian (disassemble v w.bytes)))

end Sys2Proof.Machine
end

