-- ==== Sys2Proof/Machine/Mpu.lean ====
section
/-! DEFINITION. The memory protection unit and the bus's error answers: which accesses are permitted
(20_memory R99, R110 to R118; log 8, 12, 14, 15). -/

namespace Sys2Proof.Machine

/-- What the MPU says of one access. -/
inductive Verdict
  | permit
  | deny
  /-- The spec refuses to say (93 U1, U2, U6). -/
  | refuse (r : Refusal)
  deriving DecidableEq, Repr

/-- Bit 0 of a PACR, E: the region is enabled (10_state R52). -/
def pacrEnabled (p : Word) : Bool := p.getLsbD 0

/-- Bits 5:1 of a PACR, Size: the region has 2^(Size+1) bytes (10_state R52). -/
def pacrSize (p : Word) : Nat := (p.extractLsb' 1 5).toNat

/-- Size is not reserved and the base is aligned to the size (10_state R53). -/
def pacrWellFormed (p : Word) : Bool :=
  decide (9 ≤ pacrSize p) && decide ((p &&& 0xFFFFFC00#32).toNat % 2 ^ (pacrSize p + 1) = 0)

/-- The addresses a region covers: those that agree with the PACR above the size (20_memory R112). -/
def pacrCovers (p a : Word) : Bool := a >>> (pacrSize p + 1) == p >>> (pacrSize p + 1)

/-- The regions from the highest index, which decides, to the lowest (20_memory R113). -/
def regionsDown : List (Fin 8) := [7, 6, 5, 4, 3, 2, 1, 0]

/-- A region the configuration has and software has enabled (20_memory R112, R118). -/
def regionEnabled (s : State) (i : Fin 8) : Bool := decide (i.val < s.cfg.mpuRegions.val) && pacrEnabled s.pacr[i]

/-- An enabled region breaks the rules for PACR (92 D28). -/
def regionMalformed (s : State) (i : Fin 8) : Bool := regionEnabled s i && !pacrWellFormed s.pacr[i]

/-- The highest enabled region that covers an address (20_memory R113). -/
def decidingRegion (s : State) (a : Word) : Option (Fin 8) :=
  regionsDown.find? fun i => regionEnabled s i && pacrCovers s.pacr[i] a

/-- CAPR.X_i: not executable (10_state R50). -/
def caprX (capr : Word) (i : Fin 8) : Bool := capr.getLsbD i.val

/-- CAPR.AP_i (10_state R50). -/
def caprAp (capr : Word) (i : Fin 8) : BitVec 2 := capr.extractLsb' (8 + 2 * i.val) 2

/-- CAPR.S_i: secure (10_state R50). -/
def caprSecure (capr : Word) (i : Fin 8) : Bool := capr.getLsbD (24 + i.val)

/-- The AP table for reads (10_state R50, 20_memory R113). -/
def apReads (ap : BitVec 2) (supervisor : Bool) : Bool := if supervisor then ap != 0 else ap == 2 || ap == 3

/-- The AP table for writes (10_state R50, 20_memory R113). -/
def apWrites (ap : BitVec 2) (supervisor : Bool) : Bool := if supervisor then ap != 0 else ap == 3

/-- What one region permits (20_memory R113). A fetch needs X = 0 and the read permission of the mode (92 D16;
log 14). -/
def regionPermits (capr : Word) (i : Fin 8) (kind : AccessKind) (supervisor : Bool) : Bool :=
  match kind with
  | .read => apReads (caprAp capr i) supervisor
  | .write => apWrites (caprAp capr i) supervisor
  | .fetch => !caprX capr i && apReads (caprAp capr i) supervisor

/-- The check of one byte address (20_memory R111, R113, R114). A core without regions checks nothing (92 D6). -/
def mpuCheck (s : State) (kind : AccessKind) (supervisor : Bool) (a : Word) : Verdict :=
  if s.cfg.mpuRegions.val = 0 then .permit
  else if s.mp = 0b00#2 then .permit
  else if s.mp = 0b01#2 then
    if regionsDown.any (regionMalformed s) then .refuse .mpuRegionMalformed
    else
      match decidingRegion s a with
      | none => .deny
      | some i => if regionPermits s.capr i kind supervisor then .permit else .deny
  else .refuse .mpuModeUndefined

/-- The check of every byte address an access touches: the first that is not permitted decides (20_memory R95). -/
def mpuCheckAll (s : State) (kind : AccessKind) (supervisor : Bool) : List Word → Verdict
  | [] => .permit
  | a :: rest =>
    match mpuCheck s kind supervisor a with
    | .permit => mpuCheckAll s kind supervisor rest
    | v => v

/-- The security attribute a permitted access carries to the bus; it changes nothing in the core (20_memory R116;
log 33). With the MPU disabled it is not stated. -/
def securityAttribute (s : State) (a : Word) : Option Bool :=
  if s.mp = 0b01#2 then (decidingRegion s a).map (caprSecure s.capr) else none

/-- `BusError(addr, kind)` of 20_memory R99 (log 8). -/
def busError (s : State) (kind : AccessKind) (a : Word) : Bool :=
  s.cfg.busErrors.any fun r => r.kind == kind && r.lo.ule a && a.ule r.hi

end Sys2Proof.Machine
end

