-- ==== Sys2Proof/Machine/Access.lean ====
section
/-! DEFINITION. The access primitives: data reads and writes with their checks in the order of 20_memory R95 and R96,
the fetch of one halfword (R97) and the read of a vector word (R117). -/

namespace Sys2Proof.Machine

/-- The exceptions an instruction can raise (60_exceptions R600, R601); reset and interrupts are not among them. -/
inductive Exc
  /-- Misaligned access, vector 1 (R621). -/
  | misaligned
  /-- Access error, vector 2 (R622). -/
  | accessError
  /-- Illegal instruction, vector 4 (R623). -/
  | illegal
  /-- Privilege violation, vector 5 (R624). -/
  | privilege
  /-- Breakpoint, vector 7 (R625). -/
  | breakpoint
  /-- Trap n, vector 16 + n (R627). -/
  | trap (n : BitVec 2)
  deriving DecidableEq, Repr

/-- What an access answers. -/
inductive Result (α : Type)
  | done (value : α)
  | exc (e : Exc)
  | refuse (r : Refusal)
  deriving DecidableEq, Repr

/-- A naturally aligned address (20_memory R90). -/
def aligned (a : Word) (w : Width) : Bool := a.toNat % w.bytes == 0

/-- The low address bits forced to 0 (20_memory R91). -/
def alignDown (a : Word) : Width → Word
  | .byte => a
  | .half => a &&& 0xFFFFFFFE#32
  | .word => a &&& 0xFFFFFFFC#32

/-- The address an access goes to, `none` where it raises the misaligned access exception. `multi` marks the
instructions of 20_memory R92, which PSR.MM does not excuse (R90 to R92). -/
def effectiveAddress (s : State) (multi : Bool) (a : Word) (w : Width) : Option Word :=
  if aligned a w then some a
  else if multi || !s.psr.mm then none
  else if s.cfg.hwUnaligned then some a
  else some (alignDown a w)

/-- The addresses a read shows on the bus: its own bytes if aligned, else the whole aligned words that contain them
(20_memory R93; log 13). -/
def busReadAddresses (a : Word) (w : Width) : List Word :=
  if aligned a w then byteAddresses a w.bytes
  else
    let first := alignDown a .word
    let last := alignDown (a + BitVec.ofNat 32 (w.bytes - 1)) .word
    if first = last then byteAddresses first 4 else byteAddresses first 4 ++ byteAddresses last 4

/-- MPU, then bus (20_memory R95 steps 2 and 3). -/
def checkAccess (s : State) (kind : AccessKind) (supervisor : Bool) (bytes bus : List Word) : Result Unit :=
  match mpuCheckAll s kind supervisor bytes with
  | .refuse r => .refuse r
  | .deny => .exc .accessError
  | .permit => if bus.any (busError s kind) then .exc .accessError else .done ()

/-- `MemRead` (20_memory R95), the value zero-extended to 32 bits. -/
def readData (multi : Bool) (s : State) (a : Word) (w : Width) : Result Word :=
  match effectiveAddress s multi a w with
  | none => .exc .misaligned
  | some b =>
    match checkAccess s .read s.psr.s (byteAddresses b w.bytes) (busReadAddresses b w) with
    | .refuse r => .refuse r
    | .exc e => .exc e
    | .done _ => .done (s.mem.load s.cfg.bigEndian b w)

/-- The bytes of a store, remembered on a core with a cache (92 D12; log 28). -/
def noteStored (s : State) (addresses : List Word) : List Nat :=
  if s.cfg.cacheSize = .none then s.written else addresses.map (·.toNat) ++ s.written

/-- The state after the bytes of a store have been written. -/
def storeState (s : State) (a : Word) (w : Width) (v : Word) : State :=
  { s with
    mem := s.mem.store s.cfg.bigEndian a w v
    written := noteStored s (byteAddresses a w.bytes) }

/-- `MemWrite` (20_memory R96). -/
def writeData (multi : Bool) (s : State) (a : Word) (w : Width) (v : Word) : Result State :=
  match effectiveAddress s multi a w with
  | none => .exc .misaligned
  | some b =>
    match checkAccess s .write s.psr.s (byteAddresses b w.bytes) (byteAddresses b w.bytes) with
    | .refuse r => .refuse r
    | .exc e => .exc e
    | .done _ => .done (storeState s b w v)

/-- One of these addresses was stored to on a core with a cache (92 D12; log 28). -/
def rewritten (s : State) (addresses : List Word) : Bool :=
  s.cfg.cacheSize != .none && addresses.any fun a => s.written.contains a.toNat

/-- The fetch of the halfword at `a` by the current mode (20_memory R97). -/
def fetchHalf (s : State) (a : Word) : Result Half :=
  match checkAccess s .fetch s.psr.s (byteAddresses a 2) (byteAddresses a 2) with
  | .refuse r => .refuse r
  | .exc e => .exc e
  | .done _ =>
    if rewritten s (byteAddresses a 2) then .refuse .cachedCodeRewritten
    else .done ((s.mem.load s.cfg.bigEndian a .half).extractLsb' 0 16)

/-- The read of a vector word: a supervisor access in instruction space (20_memory R117; 92 D16). DESIGN CHOICE, unsafe on a
core with a cache, log 28: a vector word that the program has stored is read as stored, where `fetchHalf` refuses; the spec
leaves open whether 93 U20 counts this read among the fetches. -/
def readVectorWord (s : State) (a : Word) : Result Word :=
  match checkAccess s .fetch true (byteAddresses a 4) (byteAddresses a 4) with
  | .refuse r => .refuse r
  | .exc e => .exc e
  | .done _ => .done (s.mem.load s.cfg.bigEndian a .word)

end Sys2Proof.Machine
end

