-- ==== Sys2Proof/Machine/Operands.lean ====
section
/-! DEFINITION. Operand forms: which register a field names (10_state R22, R23; 30_encoding R141), what an immediate
field stands for (R142, R143), which registers a list names (46_loadstore R455). -/

namespace Sys2Proof.Machine

/-! ### Registers -/

/-- R14 of a mode: R14(spv) in supervisor mode, R14(user) in user mode (10_state R22). -/
def slotSp (supervisor : Bool) : Slot := if supervisor then 14 else 16

/-- R15, the link register. -/
def slotLr : Slot := 15
/-- R14(user), also CR<14,1> (10_state R63). -/
def slotUserSp : Slot := 16
/-- R14(spv). -/
def slotSpvSp : Slot := 14
/-- R23, FP', the bottom of the translation stack (10_state R23). -/
def slotFp : Slot := 17
/-- R24, TOP, its limit. -/
def slotTop : Slot := 18
/-- R25, BSP, its pointer. -/
def slotBsp : Slot := 19
/-- R30, SVBR, the software vector base. -/
def slotSvbr : Slot := 20

/-- The register a 4-bit field names: R0 to R15, R14 through the current bank (30_encoding R141, 10_state R22). -/
def slot4 (supervisor : Bool) (n : BitVec 4) : Slot :=
  if n = 14 then slotSp supervisor else ⟨n.toNat, Nat.lt_trans n.isLt (by decide)⟩

/-- The register a 3-bit field names: R0 to R7 (30_encoding R141). -/
def slot3 (n : BitVec 3) : Slot := ⟨n.toNat, Nat.lt_trans n.isLt (by decide)⟩

/-- The register a 5-bit field names, if the core has it: R0 to R15, and R23, R24, R25, R30 with the binary code
translation mechanism (30_encoding R141, 92 D21; log 22). -/
def slot5 (hasBctm supervisor : Bool) (n : BitVec 5) : Option Slot :=
  if n.toNat < 16 then some (slot4 supervisor (n.extractLsb' 0 4))
  else if !hasBctm then none
  else if n = 23 then some slotFp
  else if n = 24 then some slotTop
  else if n = 25 then some slotBsp
  else if n = 30 then some slotSvbr
  else none

/-! ### Immediates -/

/-- A biased immediate: the field plus 1, without wrap (30_encoding R142). -/
def oimm {n : Nat} (f : BitVec n) : Word := BitVec.ofNat 32 (f.toNat + 1)

/-- A plain immediate, zero-extended. -/
def zimm {n : Nat} (f : BitVec n) : Word := f.zeroExtend 32

/-- An unsigned offset scaled by 2 or by 4 (30_encoding R142). -/
def scaled {n : Nat} (f : BitVec n) (shift : Nat) : Word := f.zeroExtend 32 <<< shift

/-- A signed branch offset: the field shifted left by one and sign-extended (30_encoding R142, 45_branch R400). -/
def branchOffset {n : Nat} (f : BitVec n) : Word := (f ++ 0#1).signExtend 32

/-- The address of a PC-relative literal: the sum with its two low bits cleared (44 R348). -/
def literalAddress {n : Nat} (pc : Word) (f : BitVec n) : Word := (pc + scaled f 2) &&& 0xFFFFFFFC#32

/-- The multiplier of JMPIX: 16, 24, 32 or 40 (45_branch R409). -/
def jmpixMultiplier (imm2 : BitVec 2) : Word := 16 + 8 * imm2.zeroExtend 32

/-- The mask of BMASKI: bits 0 to `imm5` (44 R353). -/
def maskTo (imm5 : BitVec 5) : Word := BitVec.ofNat 32 (2 ^ (imm5.toNat + 1) - 1)

/-! ### Register lists -/

/-- The registers R4 to R(3 + LIST1), then R15 if its bit is set (46_loadstore R455). -/
def pushPopList (r15 : BitVec 1) (list1 : BitVec 4) : List Slot :=
  (([4, 5, 6, 7, 8, 9, 10, 11] : List Slot).take list1.toNat) ++ (if r15 = 1 then [slotLr] else [])

/-- The registers IPUSH and IPOP transfer, in the order of ascending addresses (46_loadstore R458, R459). -/
def interruptList : List Slot := [0, 1, 2, 3, 12, 13]

/-- The registers of an LDM or STM: `imm5 + 1` registers from RY on, `none` if the list runs past R15
(46_loadstore R446, 92 D21; log 22). -/
def ldmList (supervisor : Bool) (ry imm5 : BitVec 5) : Option (List Slot) :=
  if ry.toNat + imm5.toNat ≤ 15 then
    some ((List.range (imm5.toNat + 1)).map fun k => slot4 supervisor (BitVec.ofNat 4 (ry.toNat + k)))
  else none

/-- Word addresses ascending from `a`, one for each element (46_loadstore R445). -/
def wordsFrom {α : Type} (a : Word) : List α → List (Word × α)
  | [] => []
  | x :: rest => (a, x) :: wordsFrom (a + 4) rest

end Sys2Proof.Machine
end

