-- ==== Sys2Proof/Machine/Ops.lean ====
section
/-! DEFINITION. The shared operations of the machine: registers and PSR, taking an exception and returning from one
(60_exceptions R610, R613), reset (70_reset R702), transfers of several words (46_loadstore R445), and the shapes in which
an instruction reads its operands and finishes. -/

namespace Sys2Proof.Machine

/-! ### Registers -/

/-- The value of a general register. -/
def State.reg (s : State) (r : Slot) : Word := s.gpr[r]

/-- Writes a general register. -/
def State.setReg (s : State) (r : Slot) (v : Word) : State := { s with gpr := s.gpr.set r v }

/-- Writes the C bit (10_state R28). -/
def State.setC (s : State) (c : Bool) : State := { s with psr := { s.psr with c := c } }

/-- Writes the PC; bit 0 is forced to 0 (10_state R25, R26). -/
def State.setPc (s : State) (a : Word) : State := { s with pc := a &&& 0xFFFFFFFE#32 }

/-- The next instruction in sequence, `n` bytes on (10_state R26). -/
def State.advance (s : State) (n : Word) : State := { s with pc := s.pc + n }

/-- R14 of the current mode (10_state R22). -/
def State.spSlot (s : State) : Slot := slotSp s.psr.s

/-- The register a 3-bit field names. -/
def State.reg3 (s : State) (n : BitVec 3) : Word := s.reg (slot3 n)

/-- The register a 4-bit field names. -/
def State.reg4 (s : State) (n : BitVec 4) : Word := s.reg (slot4 s.psr.s n)

/-- The register a 5-bit field names, if there is one. -/
def State.slotOf (s : State) (n : BitVec 5) : Option Slot := slot5 s.cfg.hasBctm s.psr.s n

/-! ### PSR as a word -/

/-- PSR as MFCR reads it and as an exception saves it; reserved bits are 0 (10_state R33, R43; bit numbers log 9). -/
def Psr.toWord (p : Psr) : Word :=
  BitVec.ofBool p.s ++ 0#7 ++ p.vec ++ 0#6 ++ BitVec.ofBool p.mm ++ BitVec.ofBool p.ee ++ BitVec.ofBool p.ic ++
    BitVec.ofBool p.ie ++ 0#3 ++ BitVec.ofBool p.bm ++ 0#1 ++ BitVec.ofBool p.c

/-- PSR from a word: reserved bits are ignored, and so is BM without the binary code translation mechanism
(10_state R33, R40; 92 D14). -/
def Psr.ofWord (hasBctm : Bool) (w : Word) : Psr where
  s := w.getLsbD 31
  vec := w.extractLsb' 16 8
  mm := w.getLsbD 9
  ee := w.getLsbD 8
  ic := w.getLsbD 7
  ie := w.getLsbD 6
  bm := hasBctm && w.getLsbD 2
  c := w.getLsbD 0

/-! ### Exceptions -/

/-- The vector number of an exception (60_exceptions R601). -/
def Exc.vector : Exc → Byte
  | .misaligned => 1
  | .accessError => 2
  | .illegal => 4
  | .privilege => 5
  | .breakpoint => 7
  | .trap n => 16 + n.zeroExtend 8

/-- The base of the vector table: VBR, or 0 without one (10_state R44). -/
def State.vectorBase (s : State) : Word := if s.cfg.hasVbr then s.vbr &&& 0xFFFFFC00#32 else 0

/-- The address of a vector word (60_exceptions R601). -/
def State.vectorAddress (s : State) (v : Byte) : Word := s.vectorBase + 4 * v.zeroExtend 32

/-- Steps 1 to 5 of exception entry: PSR and PC saved; S, VEC, EE and IE changed; MM, IC, BM and C kept
(60_exceptions R610, R612). -/
def State.enterVector (s : State) (v : Byte) (epc : Word) : State :=
  { s with
    epsr := s.psr.toWord
    epc := epc
    psr := { s.psr with s := true, vec := v, ee := false, ie := false }
    mode := .normal }

/-- Exception entry with the vector number settled: the state of `enterVector`, then the PC from the vector word with
bit 0 cleared (60_exceptions R610). A vector word that cannot be read leaves the machine stuck (92 D17; log 16). -/
def takeVector (v : Byte) (epc : Word) (s : State) : Outcome :=
  let t := s.enterVector v epc
  match readVectorWord t (t.vectorAddress v) with
  | .refuse r => .refused r
  | .exc _ => .fault .vectorRead
  | .done w => .next (t.setPc w)

/-- The vector an exception is taken with: 8, the unrecoverable error, when PSR.EE = 0 (60_exceptions R626). -/
def State.exceptionVector (s : State) (e : Exc) : Byte := if s.psr.ee then e.vector else 8

/-- Takes an exception: EPC is the address of the instruction that raises it (60_exceptions R610, R611 b). -/
def takeException (e : Exc) (s : State) : Outcome := takeVector (s.exceptionVector e) s.pc s

/-- Takes an interrupt: EPC is the PC at the boundary, or the interrupted instruction (60_exceptions R611 a, R628, R633).
A vector below 32 must not be presented (92 D19; log 18). -/
def takeInterrupt (v : Byte) (s : State) : Outcome :=
  if v.toNat < 32 then .refused .interruptVectorReserved else takeVector v s.pc s

/-- An interrupt is taken only with IE and EE set (10_state R39, 60_exceptions R628). -/
def State.interruptsEnabled (s : State) : Bool := s.psr.ie && s.psr.ee

/-- PSR and PC restored from EPSR and EPC, bit 0 of EPC ignored (47_system R496, 92 D33). -/
def State.returnFromException (s : State) : State :=
  ({ s with psr := Psr.ofWord s.cfg.hasBctm s.epsr }).setPc s.epc

/-! ### Reset -/

/-- The k-th free value still to be drawn (log 6). -/
def State.freeWord (s : State) (k : Nat) : Word := Config.freeWord (s.freeCount + k)

/-- The `n` low bits. -/
def lowMask (n : Nat) : Word := BitVec.ofNat 32 (2 ^ n - 1)

/-- The writable bits of a PACR: base, size and E (10_state R52). -/
def pacrMask : Word := 0xFFFFFC3F#32

/-- The registers after a reset of a running machine (70_reset R701, R702): what the spec leaves undetermined becomes free
values (93 U12, U19; log 6). Memory, the configuration and the inputs are not touched. -/
def State.resetRegisters (s : State) : State :=
  { s with
    gpr := Vector.ofFn fun i : Fin 21 => s.freeWord i.val
    psr := Psr.reset
    vbr := 0
    epsr := s.freeWord 21
    epc := s.freeWord 22
    gcr := s.freeWord 23 &&& lowMask s.cfg.gcrWidth.val
    mp := 0
    capr := 0
    pacr := Vector.ofFn fun i : Fin 8 =>
      if i.val < s.cfg.mpuRegions.val then s.freeWord (24 + i.val) &&& 0xFFFFFC3E#32 else 0
    rid := if s.cfg.mpuRegions.val = 0 then 0 else (s.freeWord 32).extractLsb' 0 3
    mode := .normal
    resetPhase := .running
    mpuUnsafe := false
    freeCount := s.freeCount + 33 }

/-- The end of reset: the PC from the word at address 0, bit 0 cleared (70_reset R702). A word that cannot be read
leaves the machine stuck (92 D17; log 16). -/
def readResetVector (s : State) : Outcome :=
  match readVectorWord s 0 with
  | .refuse r => .refused r
  | .exc _ => .fault .resetVectorRead
  | .done w => .next ({ s with resetPhase := .running }.setPc w)

/-- Reset of a running machine (70_reset R702). -/
def takeReset (s : State) : Outcome := readResetVector s.resetRegisters

/-- A software reset: the flag signal towards the outside, and the reset; in debug mode the reset waits until debug mode
is left (10_state R62, 70_reset R703; log 31). -/
def softwareReset (s : State) : Outcome :=
  let t := { s with softResets := s.softResets + 1 }
  if t.mode = .debug then .next { t with resetPhase := .onDebugExit } else takeReset t

/-! ### Finishing an instruction -/

/-- The instruction completes and the next in sequence follows, `n` bytes on. -/
def finish (n : Word) (s : State) : Outcome := .next (s.advance n)

/-- The instruction completes and control goes to `a` (10_state R26). -/
def finishAt (a : Word) (s : State) : Outcome := .next (s.setPc a)

/-- Goes on with the value of an access; an exception is taken in the state `s`. -/
def Result.andThen {α : Type} (r : Result α) (s : State) (k : α → Outcome) : Outcome :=
  match r with
  | .done v => k v
  | .exc e => takeException e s
  | .refuse r => .refused r

/-- Runs `k` in supervisor mode; in user mode the instruction raises the privilege violation exception and does nothing
else (47_system R491). -/
def privileged (s : State) (k : Outcome) : Outcome := if s.psr.s then k else takeException .privilege s

/-- Runs `k` on a core with the binary code translation mechanism; without it the instruction is illegal (92 D7). -/
def bctmOnly (s : State) (k : Outcome) : Outcome := if s.cfg.hasBctm then k else takeException .illegal s

/-- Goes on with the register a 5-bit field names; a register the core does not have is refused (92 D21; log 22). -/
def withReg (s : State) (n : BitVec 5) (k : Slot → Outcome) : Outcome :=
  match s.slotOf n with
  | some r => k r
  | none => .refused .noSuchRegister

/-! ### Shapes of register instructions -/

/-- `rz <- f rx ry`, 32-bit form. -/
def alu3 (f : Word → Word → Word) (rz rx ry : BitVec 5) (s : State) : Outcome :=
  withReg s rx fun x => withReg s ry fun y => withReg s rz fun z =>
    finish 4 (s.setReg z (f (s.reg x) (s.reg y)))

/-- `rz, C <- f rx ry C`, 32-bit form. -/
def alu3c (f : Word → Word → Bool → Word × Bool) (rz rx ry : BitVec 5) (s : State) : Outcome :=
  withReg s rx fun x => withReg s ry fun y => withReg s rz fun z =>
    let r := f (s.reg x) (s.reg y) s.psr.c
    finish 4 ((s.setReg z r.1).setC r.2)

/-- `rz <- f rx`, 32-bit form. -/
def alu2 (f : Word → Word) (rz rx : BitVec 5) (s : State) : Outcome :=
  withReg s rx fun x => withReg s rz fun z => finish 4 (s.setReg z (f (s.reg x)))

/-- `rz, C <- f rx C`, 32-bit form. -/
def alu2c (f : Word → Bool → Word × Bool) (rz rx : BitVec 5) (s : State) : Outcome :=
  withReg s rx fun x => withReg s rz fun z =>
    let r := f (s.reg x) s.psr.c
    finish 4 ((s.setReg z r.1).setC r.2)

/-- `rz <- v`, 32-bit form. -/
def alu1 (v : Word) (rz : BitVec 5) (s : State) : Outcome := withReg s rz fun z => finish 4 (s.setReg z v)

/-- `if cond then rz <- f rx`, 32-bit form (40_addsub R212 to R215). Both fields must name registers whether or not the
condition holds (log 22). -/
def alu2If (cond : Bool) (f : Word → Word) (rz rx : BitVec 5) (s : State) : Outcome :=
  withReg s rx fun x => withReg s rz fun z =>
    finish 4 (if cond then s.setReg z (f (s.reg x)) else s)

/-- `C <- f rx`, 32-bit form. -/
def test1 (f : Word → Bool) (rx : BitVec 5) (s : State) : Outcome :=
  withReg s rx fun x => finish 4 (s.setC (f (s.reg x)))

/-- `rz <- v`, 16-bit form with the destination already found. -/
def put16 (z : Slot) (v : Word) (s : State) : Outcome := finish 2 (s.setReg z v)

/-- `rz, C <- r`, 16-bit form. -/
def put16c (z : Slot) (r : Word × Bool) (s : State) : Outcome := finish 2 ((s.setReg z r.1).setC r.2)

/-- `rz <- f rz rx`, 16-bit form with 4-bit fields. -/
def alu16 (f : Word → Word → Word) (rz rx : BitVec 4) (s : State) : Outcome :=
  put16 (slot4 s.psr.s rz) (f (s.reg4 rz) (s.reg4 rx)) s

/-- `rz, C <- f rz rx C`, 16-bit form with 4-bit fields. -/
def alu16c (f : Word → Word → Bool → Word × Bool) (rz rx : BitVec 4) (s : State) : Outcome :=
  put16c (slot4 s.psr.s rz) (f (s.reg4 rz) (s.reg4 rx) s.psr.c) s

/-- `rz <- f rx`, 16-bit form with 4-bit fields. -/
def unary16 (f : Word → Word) (rz rx : BitVec 4) (s : State) : Outcome :=
  put16 (slot4 s.psr.s rz) (f (s.reg4 rx)) s

/-- `rz <- f rx`, 16-bit form with 3-bit fields. -/
def imm16op (f : Word → Word) (rz rx : BitVec 3) (s : State) : Outcome := put16 (slot3 rz) (f (s.reg3 rx)) s

/-- `C <- b`, 16-bit form. -/
def test16 (b : Bool) (s : State) : Outcome := finish 2 (s.setC b)

/-! ### Transfers of several words -/

/-- How a transfer of several words ends (46_loadstore R445, 60_exceptions R633). The state holds the transfers already
made (92 D29, D37; log 19, 20). -/
inductive Xfer
  | done (s : State)
  | exc (e : Exc) (s : State)
  | refuse (r : Refusal)
  | interrupted (v : Byte) (s : State)
  deriving DecidableEq, Repr

/-- The request that interrupts a transfer after `n` accesses: only with PSR.IC set and interrupts enabled
(60_exceptions R633; log 19). -/
def State.interruptAfter (s : State) (n : Nat) : Option Byte :=
  if s.psr.ic && s.interruptsEnabled then
    match s.inputs.midIrq with
    | some (k, v) => if k = n then some v else none
    | none => none
  else none

/-- Loads words into registers, in the order of the list; `n` accesses have been made before. The register `lost`, if in
the list, ends with a free value in place of the word (46_loadstore R446, 92 D26; log 21). -/
def loadWords (lost : Option Slot) : List (Word × Slot) → Nat → State → Xfer
  | [], _, s => .done s
  | (a, r) :: rest, n, s =>
    match s.interruptAfter n with
    | some v => .interrupted v s
    | none =>
      match readData true s a .word with
      | .exc e => .exc e s
      | .refuse q => .refuse q
      | .done w =>
        if lost = some r then
          loadWords lost rest (n + 1) { s.setReg r (s.freeWord 0) with freeCount := s.freeCount + 1 }
        else loadWords lost rest (n + 1) (s.setReg r w)

/-- Stores words, in the order of the list; `n` accesses have been made before. `split` tells that an interrupt may come
between two of them (60_exceptions R633). -/
def storeWords (split : Bool) : List (Word × Word) → Nat → State → Xfer
  | [], _, s => .done s
  | (a, w) :: rest, n, s =>
    match (if split then s.interruptAfter n else none) with
    | some v => .interrupted v s
    | none =>
      match writeData true s a .word w with
      | .exc e => .exc e s
      | .refuse q => .refuse q
      | .done t => storeWords split rest (n + 1) t

/-- Goes on when the transfer is complete; an exception or an interrupt in the middle is taken with EPC at the instruction
(46_loadstore R445 c, 60_exceptions R633). -/
def Xfer.andThen (x : Xfer) (k : State → Outcome) : Outcome :=
  match x with
  | .done s => k s
  | .exc e s => takeException e s
  | .refuse r => .refused r
  | .interrupted v s => takeInterrupt v s

/-- A word-aligned base, or the misaligned access exception whatever PSR.MM is; an empty list makes no access and so checks
nothing (20_memory R92, 46_loadstore R445 b, R456; log 20). -/
def withAlignedBase (a : Word) (empty : Bool) (s : State) (k : Outcome) : Outcome :=
  if empty || aligned a .word then k else takeException .misaligned s

end Sys2Proof.Machine
end

