-- ==== Sys2Proof/Machine/AddSub.lean ====
section
/-! DEFINITION. The add and subtract instructions (40_addsub). -/

namespace Sys2Proof.Machine

/-- ADDU, three operands (R201). -/
def execAddu32 (rz rx ry : BitVec 5) (s : State) : Outcome := alu3 (· + ·) rz rx ry s

/-- ADDU, two operands (R201). -/
def execAddu16 (rz rx : BitVec 4) (s : State) : Outcome := alu16 (· + ·) rz rx s

/-- ADDU, three operands of R0 to R7 (R201). -/
def execAddu16r3 (rz rx ry : BitVec 3) (s : State) : Outcome := put16 (slot3 rz) (s.reg3 rx + s.reg3 ry) s

/-- ADDC (R202). -/
def execAddc32 (rz rx ry : BitVec 5) (s : State) : Outcome := alu3c addWithCarry rz rx ry s

/-- ADDC, two operands (R202). -/
def execAddc16 (rz rx : BitVec 4) (s : State) : Outcome := alu16c addWithCarry rz rx s

/-- ADDI with a biased 12-bit immediate (R203). -/
def execAddi32 (rz rx : BitVec 5) (imm12 : BitVec 12) (s : State) : Outcome := alu2 (· + oimm imm12) rz rx s

/-- ADDI with a biased 8-bit immediate (R203). -/
def execAddi16i8 (rz : BitVec 3) (imm8 : BitVec 8) (s : State) : Outcome := imm16op (· + oimm imm8) rz rz s

/-- ADDI with a biased 3-bit immediate (R203). -/
def execAddi16i3 (rz rx imm3 : BitVec 3) (s : State) : Outcome := imm16op (· + oimm imm3) rz rx s

/-- ADDI(SP) into a register: the immediate is scaled by 4 (R204). -/
def execAddi16rsp (rz : BitVec 3) (imm8 : BitVec 8) (s : State) : Outcome :=
  put16 (slot3 rz) (s.reg s.spSlot + scaled imm8 2) s

/-- ADDI(SP) into SP (R204). -/
def execAddi16sp (imm7 : BitVec 7) (s : State) : Outcome := put16 s.spSlot (s.reg s.spSlot + scaled imm7 2) s

/-- SUBU, three operands; RSUB is this instruction with the sources exchanged (R205, R209). -/
def execSubu32 (rz rx ry : BitVec 5) (s : State) : Outcome := alu3 (· - ·) rz rx ry s

/-- SUBU, two operands (R205). -/
def execSubu16 (rz rx : BitVec 4) (s : State) : Outcome := alu16 (· - ·) rz rx s

/-- SUBU, three operands of R0 to R7 (R205). -/
def execSubu16r3 (rz rx ry : BitVec 3) (s : State) : Outcome := put16 (slot3 rz) (s.reg3 rx - s.reg3 ry) s

/-- SUBC (R206). -/
def execSubc32 (rz rx ry : BitVec 5) (s : State) : Outcome := alu3c subWithBorrow rz rx ry s

/-- SUBC, two operands (R206). -/
def execSubc16 (rz rx : BitVec 4) (s : State) : Outcome := alu16c subWithBorrow rz rx s

/-- SUBI with a biased 12-bit immediate (R207). -/
def execSubi32 (rz rx : BitVec 5) (imm12 : BitVec 12) (s : State) : Outcome := alu2 (· - oimm imm12) rz rx s

/-- SUBI with a biased 8-bit immediate (R207). -/
def execSubi16i8 (rz : BitVec 3) (imm8 : BitVec 8) (s : State) : Outcome := imm16op (· - oimm imm8) rz rz s

/-- SUBI with a biased 3-bit immediate (R207). -/
def execSubi16i3 (rz rx imm3 : BitVec 3) (s : State) : Outcome := imm16op (· - oimm imm3) rz rx s

/-- SUBI(SP) (R208). -/
def execSubi16sp (imm7 : BitVec 7) (s : State) : Outcome := put16 s.spSlot (s.reg s.spSlot - scaled imm7 2) s

/-- IXH: RY shifted left by one, added to RX (R210). -/
def execIxh32 (rz rx ry : BitVec 5) (s : State) : Outcome := alu3 (fun x y => x + y <<< 1) rz rx ry s

/-- IXW: RY shifted left by two, added to RX (R211). -/
def execIxw32 (rz rx ry : BitVec 5) (s : State) : Outcome := alu3 (fun x y => x + y <<< 2) rz rx ry s

/-- INCF: if C = 0 then add (R212); MOVF with IMM5 = 0. -/
def execIncf32 (rz rx : BitVec 5) (imm5 : BitVec 5) (s : State) : Outcome :=
  alu2If (!s.psr.c) (· + zimm imm5) rz rx s

/-- INCT: if C = 1 then add (R213); MOVT with IMM5 = 0. -/
def execInct32 (rz rx : BitVec 5) (imm5 : BitVec 5) (s : State) : Outcome := alu2If s.psr.c (· + zimm imm5) rz rx s

/-- DECF: if C = 0 then subtract (R214). -/
def execDecf32 (rz rx : BitVec 5) (imm5 : BitVec 5) (s : State) : Outcome :=
  alu2If (!s.psr.c) (· - zimm imm5) rz rx s

/-- DECT: if C = 1 then subtract (R215). -/
def execDect32 (rz rx : BitVec 5) (imm5 : BitVec 5) (s : State) : Outcome := alu2If s.psr.c (· - zimm imm5) rz rx s

end Sys2Proof.Machine
end

