-- ==== Sys2Proof/Machine/Branch.lean ====
section
/-! DEFINITION. The branch and jump instructions (45_branch). `s.pc` is the address of the branch itself (R400). -/

namespace Sys2Proof.Machine

/-- A PC-relative branch taken if `cond` holds; else the next instruction, `n` bytes on (R400). -/
def branchIf {k : Nat} (cond : Bool) (offset : BitVec k) (n : Word) (s : State) : Outcome :=
  if cond then finishAt (s.pc + branchOffset offset) s else finish n s

/-- BT (R402). -/
def execBt16 (offset : BitVec 10) (s : State) : Outcome := branchIf s.psr.c offset 2 s

/-- BT (R402). -/
def execBt32 (offset : BitVec 16) (s : State) : Outcome := branchIf s.psr.c offset 4 s

/-- BF (R403). -/
def execBf16 (offset : BitVec 10) (s : State) : Outcome := branchIf (!s.psr.c) offset 2 s

/-- BF (R403). -/
def execBf32 (offset : BitVec 16) (s : State) : Outcome := branchIf (!s.psr.c) offset 4 s

/-- BR (R404). -/
def execBr16 (offset : BitVec 10) (s : State) : Outcome := branchIf true offset 2 s

/-- BR (R404). -/
def execBr32 (offset : BitVec 16) (s : State) : Outcome := branchIf true offset 4 s

/-- BSR: R15 receives pc + 4 (R405). -/
def execBsr32 (offset : BitVec 26) (s : State) : Outcome :=
  finishAt (s.pc + branchOffset offset) (s.setReg slotLr (s.pc + 4))

/-- JMP; RTS is JMP R15 (R406, R408). -/
def execJmp16 (rx : BitVec 4) (s : State) : Outcome := finishAt (s.reg4 rx) s

/-- JSR: RX is read before R15 receives pc + 2 (R407). -/
def execJsr16 (rx : BitVec 4) (s : State) : Outcome := finishAt (s.reg4 rx) (s.setReg slotLr (s.pc + 2))

/-- JMPIX: SVBR plus the low byte of RX times 16, 24, 32 or 40 (R409). -/
def execJmpix16 (rx : BitVec 3) (imm2 : BitVec 2) (s : State) : Outcome :=
  bctmOnly s (finishAt (s.reg slotSvbr + zimm ((s.reg3 rx).extractLsb' 0 8) * jmpixMultiplier imm2) s)

end Sys2Proof.Machine
end

