-- ==== Sys2Proof/Machine/Compare.lean ====
section
/-! DEFINITION. The compare and test instructions (43_compare): each writes C and no register. -/

namespace Sys2Proof.Machine

/-- CMPNE (R311). -/
def execCmpne16 (rx ry : BitVec 4) (s : State) : Outcome := test16 (s.reg4 rx != s.reg4 ry) s

/-- CMPNEI, 5-bit immediate, not biased (R312). -/
def execCmpnei16 (rx : BitVec 3) (imm5 : BitVec 5) (s : State) : Outcome := test16 (s.reg3 rx != zimm imm5) s

/-- CMPNEI, 16-bit immediate, not biased (R312). -/
def execCmpnei32 (rx : BitVec 5) (imm16 : BitVec 16) (s : State) : Outcome := test1 (· != zimm imm16) rx s

/-- CMPHS, unsigned (R313). -/
def execCmphs16 (rx ry : BitVec 4) (s : State) : Outcome := test16 ((s.reg4 ry).ule (s.reg4 rx)) s

/-- CMPHSI, biased immediate (R314). -/
def execCmphsi16 (rx : BitVec 3) (imm5 : BitVec 5) (s : State) : Outcome := test16 ((oimm imm5).ule (s.reg3 rx)) s

/-- CMPHSI, biased immediate (R314). -/
def execCmphsi32 (rx : BitVec 5) (imm16 : BitVec 16) (s : State) : Outcome := test1 ((oimm imm16).ule ·) rx s

/-- CMPLT, signed (R315). -/
def execCmplt16 (rx ry : BitVec 4) (s : State) : Outcome := test16 ((s.reg4 rx).slt (s.reg4 ry)) s

/-- CMPLTI, signed, biased immediate (R316). -/
def execCmplti16 (rx : BitVec 3) (imm5 : BitVec 5) (s : State) : Outcome := test16 ((s.reg3 rx).slt (oimm imm5)) s

/-- CMPLTI, signed, biased immediate (R316). -/
def execCmplti32 (rx : BitVec 5) (imm16 : BitVec 16) (s : State) : Outcome := test1 (·.slt (oimm imm16)) rx s

/-- TST (R317). -/
def execTst16 (rx ry : BitVec 4) (s : State) : Outcome := test16 (s.reg4 rx &&& s.reg4 ry != 0) s

/-- TSTNBZ (R318). -/
def execTstnbz16 (rx : BitVec 4) (s : State) : Outcome := test16 (noZeroByte (s.reg4 rx)) s

end Sys2Proof.Machine
end

