-- ==== Sys2Proof/Machine/LoadStore.lean ====
section
/-! DEFINITION. The load and store instructions (46_loadstore). -/

namespace Sys2Proof.Machine

/-- The scale of an access's offset field: 0, 1 or 2 bits (46_loadstore R431). -/
def Width.shift : Width → Nat
  | .byte => 0
  | .half => 1
  | .word => 2

/-- A loaded value with its sign extended from the width of the access (20_memory R82). -/
def signed (w : Width) (v : Word) : Word :=
  match w with
  | .byte => (v.extractLsb' 0 8).signExtend 32
  | .half => (v.extractLsb' 0 16).signExtend 32
  | .word => v

/-- `rz <- ext (MemRead (rx + offset))`, 32-bit form (R430 to R436). -/
def load32 (w : Width) (ext : Word → Word) (rz rx : BitVec 5) (imm12 : BitVec 12) (s : State) : Outcome :=
  withReg s rx fun x => withReg s rz fun z =>
    (readData false s (s.reg x + scaled imm12 w.shift) w).andThen s fun v => finish 4 (s.setReg z (ext v))

/-- `MemWrite (rx + offset) rz`, 32-bit form (R440 to R442). -/
def store32 (w : Width) (rz rx : BitVec 5) (imm12 : BitVec 12) (s : State) : Outcome :=
  withReg s rx fun x => withReg s rz fun z =>
    (writeData false s (s.reg x + scaled imm12 w.shift) w (s.reg z)).andThen s fun t => finish 4 t

/-- `rz <- MemRead a`, 16-bit form. -/
def load16 (w : Width) (rz : BitVec 3) (a : Word) (s : State) : Outcome :=
  (readData false s a w).andThen s fun v => put16 (slot3 rz) v s

/-- `MemWrite a rz`, 16-bit form. -/
def store16 (w : Width) (rz : BitVec 3) (a : Word) (s : State) : Outcome :=
  (writeData false s a w (s.reg3 rz)).andThen s fun t => finish 2 t

/-- LD.B (R432). -/
def execLd32b (rz rx : BitVec 5) (imm12 : BitVec 12) (s : State) : Outcome := load32 .byte (fun v => v) rz rx imm12 s

/-- LD.B, R0 to R7 (R432). -/
def execLd16b (rz rx : BitVec 3) (imm5 : BitVec 5) (s : State) : Outcome :=
  load16 .byte rz (s.reg3 rx + scaled imm5 0) s

/-- ST.B (R440). -/
def execSt32b (rz rx : BitVec 5) (imm12 : BitVec 12) (s : State) : Outcome := store32 .byte rz rx imm12 s

/-- ST.B, R0 to R7 (R440). -/
def execSt16b (rz rx : BitVec 3) (imm5 : BitVec 5) (s : State) : Outcome :=
  store16 .byte rz (s.reg3 rx + scaled imm5 0) s

/-- LD.H (R434). -/
def execLd32h (rz rx : BitVec 5) (imm12 : BitVec 12) (s : State) : Outcome := load32 .half (fun v => v) rz rx imm12 s

/-- LD.H, R0 to R7 (R434). -/
def execLd16h (rz rx : BitVec 3) (imm5 : BitVec 5) (s : State) : Outcome :=
  load16 .half rz (s.reg3 rx + scaled imm5 1) s

/-- ST.H (R441). -/
def execSt32h (rz rx : BitVec 5) (imm12 : BitVec 12) (s : State) : Outcome := store32 .half rz rx imm12 s

/-- ST.H, R0 to R7 (R441). -/
def execSt16h (rz rx : BitVec 3) (imm5 : BitVec 5) (s : State) : Outcome :=
  store16 .half rz (s.reg3 rx + scaled imm5 1) s

/-- LD.W (R436). -/
def execLd32w (rz rx : BitVec 5) (imm12 : BitVec 12) (s : State) : Outcome := load32 .word (fun v => v) rz rx imm12 s

/-- LD.W, R0 to R7 (R436). -/
def execLd16w (rz rx : BitVec 3) (imm5 : BitVec 5) (s : State) : Outcome :=
  load16 .word rz (s.reg3 rx + scaled imm5 2) s

/-- ST.W (R442). -/
def execSt32w (rz rx : BitVec 5) (imm12 : BitVec 12) (s : State) : Outcome := store32 .word rz rx imm12 s

/-- ST.W, R0 to R7 (R442). -/
def execSt16w (rz rx : BitVec 3) (imm5 : BitVec 5) (s : State) : Outcome :=
  store16 .word rz (s.reg3 rx + scaled imm5 2) s

/-- LD.BS (R433). -/
def execLd32bs (rz rx : BitVec 5) (imm12 : BitVec 12) (s : State) : Outcome :=
  load32 .byte (signed .byte) rz rx imm12 s

/-- LD.HS (R435). -/
def execLd32hs (rz rx : BitVec 5) (imm12 : BitVec 12) (s : State) : Outcome :=
  load32 .half (signed .half) rz rx imm12 s

/-- LD.W from SP (R436). -/
def execLd16wsp (rz : BitVec 3) (imm8 : BitVec 8) (s : State) : Outcome :=
  load16 .word rz (s.reg s.spSlot + scaled imm8 2) s

/-- ST.W to SP (R442). -/
def execSt16wsp (rz : BitVec 3) (imm8 : BitVec 8) (s : State) : Outcome :=
  store16 .word rz (s.reg s.spSlot + scaled imm8 2) s

/-- LDM; LDQ is RY = 4, IMM5 = 3 (R446, R447). The base register is not written back; in the list it ends with a free value
(92 D26; log 21). -/
def execLdm32 (ry rx imm5 : BitVec 5) (s : State) : Outcome :=
  withReg s rx fun x =>
    match ldmList s.psr.s ry imm5 with
    | none => .refused .noSuchRegister
    | some l =>
      withAlignedBase (s.reg x) false s
        ((loadWords (some x) (wordsFrom (s.reg x) l) 0 s).andThen fun t => finish 4 t)

/-- STM; STQ is RY = 4, IMM5 = 3 (R448, R449). -/
def execStm32 (ry rx imm5 : BitVec 5) (s : State) : Outcome :=
  withReg s rx fun x =>
    match ldmList s.psr.s ry imm5 with
    | none => .refused .noSuchRegister
    | some l =>
      withAlignedBase (s.reg x) false s
        ((storeWords true (wordsFrom (s.reg x) (l.map s.reg)) 0 s).andThen fun t => finish 4 t)

/-- Pushes registers: the first of the list ends at the lowest address, the stores go down from SP, SP is updated last
(R456, R458, 92 D38; log 34). -/
def pushList (l : List Slot) (s : State) : Outcome :=
  let sp := s.reg s.spSlot
  let top := sp - BitVec.ofNat 32 (4 * l.length)
  withAlignedBase sp l.isEmpty s
    ((storeWords true (wordsFrom top (l.map s.reg)).reverse 0 s).andThen fun t =>
      finish 2 (t.setReg s.spSlot top))

/-- Pops registers from SP upward, SP updated last; `k` goes on from there (R457, R459). -/
def popList (l : List Slot) (s : State) (k : State → Outcome) : Outcome :=
  let sp := s.reg s.spSlot
  withAlignedBase sp l.isEmpty s
    ((loadWords none (wordsFrom sp l) 0 s).andThen fun t =>
      k (t.setReg s.spSlot (sp + BitVec.ofNat 32 (4 * l.length))))

/-- PUSH (R456). -/
def execPush16 (r15 : BitVec 1) (list1 : BitVec 4) (s : State) : Outcome := pushList (pushPopList r15 list1) s

/-- POP: pops, then jumps to R15 whether or not it was in the list (R457). -/
def execPop16 (r15 : BitVec 1) (list1 : BitVec 4) (s : State) : Outcome :=
  popList (pushPopList r15 list1) s fun t => finishAt (t.reg slotLr) t

/-- IPUSH (R458). -/
def execIpush16 (s : State) : Outcome := pushList interruptList s

/-- IPOP (R459). -/
def execIpop16 (s : State) : Outcome := popList interruptList s fun t => finish 2 t

/-- The overflow of the translation stack: R15 receives the next PC and control goes to SVBR - 12; no access is made
(R470). -/
def stackOverflow (s : State) : Outcome := finishAt (s.reg slotSvbr - 12) (s.setReg slotLr (s.pc + 2))

/-- BPUSH: the new BSP is compared with TOP, unsigned and without wrap (R470 to R472; log 25). -/
def bpush (w : Width) (rz : BitVec 3) (s : State) : Outcome :=
  bctmOnly s
    (if (s.reg slotTop).toNat < (s.reg slotBsp).toNat + w.bytes then stackOverflow s
    else
      (writeData false s (s.reg slotBsp) w (s.reg3 rz)).andThen s fun t =>
        finish 2 (t.setReg slotBsp (s.reg slotBsp + BitVec.ofNat 32 w.bytes)))

/-- BPOP: the new BSP is compared with FP', unsigned and without wrap; BSP is written only when the load succeeds
(R470, R473, R474; log 25). -/
def bpop (w : Width) (rz : BitVec 3) (s : State) : Outcome :=
  bctmOnly s
    (if (s.reg slotBsp).toNat < (s.reg slotFp).toNat + w.bytes then stackOverflow s
    else
      (readData false s (s.reg slotBsp - BitVec.ofNat 32 w.bytes) w).andThen s fun v =>
        finish 2 ((s.setReg (slot3 rz) v).setReg slotBsp (s.reg slotBsp - BitVec.ofNat 32 w.bytes)))

/-- BPUSH.H (R471). -/
def execBpush16h (rz : BitVec 3) (s : State) : Outcome := bpush .half rz s

/-- BPUSH.W (R472). -/
def execBpush16w (rz : BitVec 3) (s : State) : Outcome := bpush .word rz s

/-- BPOP.H (R473). -/
def execBpop16h (rz : BitVec 3) (s : State) : Outcome := bpop .half rz s

/-- BPOP.W (R474). -/
def execBpop16w (rz : BitVec 3) (s : State) : Outcome := bpop .word rz s

end Sys2Proof.Machine
end

