-- ==== Sys2Proof/Machine/Logic.lean ====
section
/-! DEFINITION. The logical instructions (41_logic). -/

namespace Sys2Proof.Machine

/-- AND (R240). -/
def execAnd32 (rz rx ry : BitVec 5) (s : State) : Outcome := alu3 (· &&& ·) rz rx ry s

/-- AND, two operands (R240). -/
def execAnd16 (rz rx : BitVec 4) (s : State) : Outcome := alu16 (· &&& ·) rz rx s

/-- ANDI (R241). -/
def execAndi32 (rz rx : BitVec 5) (imm12 : BitVec 12) (s : State) : Outcome := alu2 (· &&& zimm imm12) rz rx s

/-- ANDN: RX and not RY (R242). -/
def execAndn32 (rz rx ry : BitVec 5) (s : State) : Outcome := alu3 (fun x y => x &&& ~~~y) rz rx ry s

/-- ANDN, two operands: RZ and not RX (R242). -/
def execAndn16 (rz rx : BitVec 4) (s : State) : Outcome := alu16 (fun z x => z &&& ~~~x) rz rx s

/-- ANDNI: the immediate is complemented after zero extension (R243). -/
def execAndni32 (rz rx : BitVec 5) (imm12 : BitVec 12) (s : State) : Outcome := alu2 (· &&& ~~~zimm imm12) rz rx s

/-- OR (R244). -/
def execOr32 (rz rx ry : BitVec 5) (s : State) : Outcome := alu3 (· ||| ·) rz rx ry s

/-- OR, two operands (R244). -/
def execOr16 (rz rx : BitVec 4) (s : State) : Outcome := alu16 (· ||| ·) rz rx s

/-- ORI (R245). -/
def execOri32 (rz rx : BitVec 5) (imm16 : BitVec 16) (s : State) : Outcome := alu2 (· ||| zimm imm16) rz rx s

/-- XOR (R246). -/
def execXor32 (rz rx ry : BitVec 5) (s : State) : Outcome := alu3 (· ^^^ ·) rz rx ry s

/-- XOR, two operands (R246). -/
def execXor16 (rz rx : BitVec 4) (s : State) : Outcome := alu16 (· ^^^ ·) rz rx s

/-- XORI (R247). -/
def execXori32 (rz rx : BitVec 5) (imm12 : BitVec 12) (s : State) : Outcome := alu2 (· ^^^ zimm imm12) rz rx s

/-- NOR; NOT with both sources equal (R248, R249). -/
def execNor32 (rz rx ry : BitVec 5) (s : State) : Outcome := alu3 (fun x y => ~~~(x ||| y)) rz rx ry s

/-- NOR, two operands (R248, R249). -/
def execNor16 (rz rx : BitVec 4) (s : State) : Outcome := alu16 (fun z x => ~~~(z ||| x)) rz rx s

end Sys2Proof.Machine
end

