-- ==== Sys2Proof/Machine/MoveBit.lean ====
section
/-! DEFINITION. Data moves, bit operations, extracts, find-first and multiply (44_move_bit_extract). -/

namespace Sys2Proof.Machine

/-- MOV (R341). -/
def execMov16 (rz rx : BitVec 4) (s : State) : Outcome := unary16 (fun x => x) rz rx s

/-- MOVI (R344). -/
def execMovi16 (rz : BitVec 3) (imm8 : BitVec 8) (s : State) : Outcome := put16 (slot3 rz) (zimm imm8) s

/-- MOVI; BGENI below 16 (R344, R354). -/
def execMovi32 (rz : BitVec 5) (imm16 : BitVec 16) (s : State) : Outcome := alu1 (zimm imm16) rz s

/-- MOVIH; BGENI from 16 on (R345, R354). -/
def execMovih32 (rz : BitVec 5) (imm16 : BitVec 16) (s : State) : Outcome := alu1 (zimm imm16 <<< 16) rz s

/-- MVC (R346). -/
def execMvc32 (rz : BitVec 5) (s : State) : Outcome := alu1 ((BitVec.ofBool s.psr.c).zeroExtend 32) rz s

/-- MVCV (R347). -/
def execMvcv16 (rz : BitVec 4) (s : State) : Outcome :=
  put16 (slot4 s.psr.s rz) ((BitVec.ofBool (!s.psr.c)).zeroExtend 32) s

/-- LRW with an 8-bit word offset (R348). -/
def execLrw16 (rz : BitVec 3) (offset : BitVec 8) (s : State) : Outcome :=
  (readData false s (literalAddress s.pc offset) .word).andThen s fun w => put16 (slot3 rz) w s

/-- LRW with a 16-bit word offset (R348). -/
def execLrw32 (rz : BitVec 5) (offset : BitVec 16) (s : State) : Outcome :=
  withReg s rz fun z =>
    (readData false s (literalAddress s.pc offset) .word).andThen s fun w => finish 4 (s.setReg z w)

/-- BCLRI (R350). -/
def execBclri16 (rz : BitVec 3) (imm5 : BitVec 5) (s : State) : Outcome :=
  imm16op (· &&& ~~~(1#32 <<< imm5.toNat)) rz rz s

/-- BCLRI (R350). -/
def execBclri32 (rz rx : BitVec 5) (imm5 : BitVec 5) (s : State) : Outcome :=
  alu2 (· &&& ~~~(1#32 <<< imm5.toNat)) rz rx s

/-- BSETI (R351). -/
def execBseti16 (rz : BitVec 3) (imm5 : BitVec 5) (s : State) : Outcome :=
  imm16op (· ||| 1#32 <<< imm5.toNat) rz rz s

/-- BSETI (R351). -/
def execBseti32 (rz rx : BitVec 5) (imm5 : BitVec 5) (s : State) : Outcome :=
  alu2 (· ||| 1#32 <<< imm5.toNat) rz rx s

/-- BTSTI (R352). -/
def execBtsti16 (rx : BitVec 3) (imm5 : BitVec 5) (s : State) : Outcome := test16 ((s.reg3 rx).getLsbD imm5.toNat) s

/-- BTSTI (R352). -/
def execBtsti32 (rx imm5 : BitVec 5) (s : State) : Outcome := test1 (·.getLsbD imm5.toNat) rx s

/-- BMASKI (R353). Fields 0 to 15 are excluded by the page and refused (92 D36; log 24). -/
def execBmaski32 (rz imm5 : BitVec 5) (s : State) : Outcome :=
  if imm5.toNat < 16 then .refused .bmaskiFieldExcluded else alu1 (maskTo imm5) rz s

/-- ZEXTB (R355). -/
def execZextb16 (rz rx : BitVec 4) (s : State) : Outcome :=
  unary16 (fun x => (x.extractLsb' 0 8).zeroExtend 32) rz rx s

/-- ZEXTH (R356). -/
def execZexth16 (rz rx : BitVec 4) (s : State) : Outcome :=
  unary16 (fun x => (x.extractLsb' 0 16).zeroExtend 32) rz rx s

/-- SEXTB (R357). -/
def execSextb16 (rz rx : BitVec 4) (s : State) : Outcome :=
  unary16 (fun x => (x.extractLsb' 0 8).signExtend 32) rz rx s

/-- SEXTH (R358). -/
def execSexth16 (rz rx : BitVec 4) (s : State) : Outcome :=
  unary16 (fun x => (x.extractLsb' 0 16).signExtend 32) rz rx s

/-- XTRB0: byte 0 is bits 31:24 (R359). -/
def execXtrb0 (rz rx : BitVec 5) (s : State) : Outcome := alu2c (fun x _ => extractByte x 24) rz rx s

/-- XTRB1: bits 23:16 (R360). -/
def execXtrb1 (rz rx : BitVec 5) (s : State) : Outcome := alu2c (fun x _ => extractByte x 16) rz rx s

/-- XTRB2: bits 15:8 (R361). -/
def execXtrb2 (rz rx : BitVec 5) (s : State) : Outcome := alu2c (fun x _ => extractByte x 8) rz rx s

/-- XTRB3: bits 7:0 (R362). -/
def execXtrb3 (rz rx : BitVec 5) (s : State) : Outcome := alu2c (fun x _ => extractByte x 0) rz rx s

/-- REVB (R363). -/
def execRevb16 (rz rx : BitVec 4) (s : State) : Outcome := unary16 revBytes rz rx s

/-- REVH (R364). -/
def execRevh16 (rz rx : BitVec 4) (s : State) : Outcome := unary16 revHalves rz rx s

/-- FF0 (R365). -/
def execFf0 (rz rx : BitVec 5) (s : State) : Outcome := alu2 findFirst0 rz rx s

/-- FF1 (R366). -/
def execFf1 (rz rx : BitVec 5) (s : State) : Outcome := alu2 findFirst1 rz rx s

/-- MULT, two operands: the low 32 bits of the product (R367). -/
def execMult16 (rz rx : BitVec 4) (s : State) : Outcome := alu16 (· * ·) rz rx s

/-- MULT, three operands (R367). -/
def execMult32 (rz rx ry : BitVec 5) (s : State) : Outcome := alu3 (· * ·) rz rx ry s

end Sys2Proof.Machine
end

