-- ==== Sys2Proof/Machine/Shift.lean ====
section
/-! DEFINITION. The shift and rotate instructions (42_shift). -/

namespace Sys2Proof.Machine

/-- LSL (R271). -/
def execLsl32 (rz rx ry : BitVec 5) (s : State) : Outcome := alu3 lslReg rz rx ry s

/-- LSL, two operands (R271). -/
def execLsl16 (rz rx : BitVec 4) (s : State) : Outcome := alu16 lslReg rz rx s

/-- LSLI; MOV32 with IMM5 = 0 (R272). -/
def execLsli32 (rz rx : BitVec 5) (imm5 : BitVec 5) (s : State) : Outcome := alu2 (· <<< imm5.toNat) rz rx s

/-- LSLI (R272). -/
def execLsli16 (rz rx : BitVec 3) (imm5 : BitVec 5) (s : State) : Outcome := imm16op (· <<< imm5.toNat) rz rx s

/-- LSLC (R273). -/
def execLslc32 (rz rx : BitVec 5) (imm5 : BitVec 5) (s : State) : Outcome :=
  alu2c (fun x _ => lslCarry x (biasedAmount imm5)) rz rx s

/-- LSR (R274). -/
def execLsr32 (rz rx ry : BitVec 5) (s : State) : Outcome := alu3 lsrReg rz rx ry s

/-- LSR, two operands (R274). -/
def execLsr16 (rz rx : BitVec 4) (s : State) : Outcome := alu16 lsrReg rz rx s

/-- LSRI (R275). -/
def execLsri32 (rz rx : BitVec 5) (imm5 : BitVec 5) (s : State) : Outcome := alu2 (· >>> imm5.toNat) rz rx s

/-- LSRI (R275). -/
def execLsri16 (rz rx : BitVec 3) (imm5 : BitVec 5) (s : State) : Outcome := imm16op (· >>> imm5.toNat) rz rx s

/-- LSRC (R276). -/
def execLsrc32 (rz rx : BitVec 5) (imm5 : BitVec 5) (s : State) : Outcome :=
  alu2c (fun x _ => lsrCarry x (biasedAmount imm5)) rz rx s

/-- ASR (R277). -/
def execAsr32 (rz rx ry : BitVec 5) (s : State) : Outcome := alu3 asrReg rz rx ry s

/-- ASR, two operands (R277). -/
def execAsr16 (rz rx : BitVec 4) (s : State) : Outcome := alu16 asrReg rz rx s

/-- ASRI (R278). -/
def execAsri32 (rz rx : BitVec 5) (imm5 : BitVec 5) (s : State) : Outcome := alu2 (·.sshiftRight imm5.toNat) rz rx s

/-- ASRI (R278). -/
def execAsri16 (rz rx : BitVec 3) (imm5 : BitVec 5) (s : State) : Outcome :=
  imm16op (·.sshiftRight imm5.toNat) rz rx s

/-- ASRC (R279). -/
def execAsrc32 (rz rx : BitVec 5) (imm5 : BitVec 5) (s : State) : Outcome :=
  alu2c (fun x _ => asrCarry x (biasedAmount imm5)) rz rx s

/-- ROTL (R280). -/
def execRotl32 (rz rx ry : BitVec 5) (s : State) : Outcome := alu3 rotlReg rz rx ry s

/-- ROTL, two operands (R280). -/
def execRotl16 (rz rx : BitVec 4) (s : State) : Outcome := alu16 rotlReg rz rx s

/-- ROTLI (R281). -/
def execRotli32 (rz rx : BitVec 5) (imm5 : BitVec 5) (s : State) : Outcome := alu2 (rotl · imm5.toNat) rz rx s

/-- XSR (R282). -/
def execXsr32 (rz rx : BitVec 5) (imm5 : BitVec 5) (s : State) : Outcome :=
  alu2c (fun x c => extendedShiftRight x c (biasedAmount imm5)) rz rx s

end Sys2Proof.Machine
end

