-- ==== Sys2Proof/Machine/ControlRegs.lean ====
section
/-! DEFINITION. The control registers as MFCR and MTCR see them (10_state R30 to R63). -/

namespace Sys2Proof.Machine

/-- The control registers the spec names (10_state R31). -/
inductive Cr
  | psr | vbr | epsr | epc | gcr | gsr | cpuidr | ccr | capr | pacr | prsr | srcr | userSp
  deriving DecidableEq, Repr

/-- The control register CR<n, sel>, if the configuration implements it (10_state R31, R32; 92 D20; log 27). -/
def crOf (hasVbr : Bool) (n sel : BitVec 5) : Option Cr :=
  match n, sel with
  | 0#5, 0#5 => some .psr
  | 1#5, 0#5 => if hasVbr then some .vbr else none
  | 2#5, 0#5 => some .epsr
  | 4#5, 0#5 => some .epc
  | 11#5, 0#5 => some .gcr
  | 12#5, 0#5 => some .gsr
  | 13#5, 0#5 => some .cpuidr
  | 18#5, 0#5 => some .ccr
  | 19#5, 0#5 => some .capr
  | 20#5, 0#5 => some .pacr
  | 21#5, 0#5 => some .prsr
  | 31#5, 0#5 => some .srcr
  | 14#5, 1#5 => some .userSp
  | _, _ => none

/-- CCR: BE_V2 at 13, SCK at 10:8, BE at 7, MP at 1:0 (10_state R49). -/
def ccrWord (cfg : Config) (mp : BitVec 2) : Word :=
  0#18 ++ BitVec.ofBool cfg.beV2 ++ 0#2 ++ cfg.sck ++ BitVec.ofBool cfg.bigEndian ++ 0#5 ++ mp

/-- The bits of CAPR that belong to region `i`: S_i, AP_i, X_i (10_state R50). -/
def caprRegionMask (i : Nat) : Word := 1#32 <<< i ||| 3#32 <<< (8 + 2 * i) ||| 1#32 <<< (24 + i)

/-- The bits of CAPR that belong to the first `n` regions (92 D6; log 12). -/
def caprMask : Nat → Word
  | 0 => 0
  | n + 1 => caprMask n ||| caprRegionMask n

/-- The region PRSR selects, if the configuration has it (10_state R52, 92 D6; log 12). -/
def selectedRegion (s : State) : Option (Fin 8) :=
  if s.rid.toNat < s.cfg.mpuRegions.val then some ⟨s.rid.toNat, s.rid.isLt⟩ else none

/-- What MFCR reads (47_system R492). -/
def readCr (s : State) : Cr → Word
  | .psr => s.psr.toWord
  | .vbr => s.vbr
  | .epsr => s.epsr
  | .epc => s.epc
  | .gcr => s.gcr
  | .gsr => s.inputs.gsr &&& lowMask s.cfg.gsrWidth.val
  | .cpuidr => s.cfg.cpuidr
  | .ccr => ccrWord s.cfg s.mp
  | .capr => s.capr
  | .pacr =>
    match selectedRegion s with
    | some i => s.pacr[i]
    | none => 0
  | .prsr => s.rid.zeroExtend 32
  | .srcr => 0
  | .userSp => s.reg slotUserSp

/-- What MTCR writes, for every register but SRCR, which holds no state (47_system R493 a to h, j). -/
def writeCr (s : State) (v : Word) : Cr → State
  | .psr => { s with psr := Psr.ofWord s.cfg.hasBctm v }
  | .vbr => { s with vbr := v &&& 0xFFFFFC00#32 }
  | .epsr => { s with epsr := v }
  | .epc => { s with epc := v }
  | .gcr => { s with gcr := v &&& lowMask s.cfg.gcrWidth.val }
  | .gsr => s
  | .cpuidr => s
  | .ccr => if s.cfg.mpuRegions.val = 0 then s else { s with mp := v.extractLsb' 0 2 }
  | .capr => { s with capr := v &&& caprMask s.cfg.mpuRegions.val }
  | .pacr =>
    match selectedRegion s with
    | some i => { s with pacr := s.pacr.set i (v &&& pacrMask) }
    | none => s
  | .prsr => if s.cfg.mpuRegions.val = 0 then s else { s with rid := v.extractLsb' 0 3 }
  | .srcr => s
  | .userSp => s.setReg slotUserSp v

/-- MTCR to CCR enables the MPU against the order of 20_memory R115: no region is enabled, or the instruction itself could
not be fetched by supervisor mode under the new settings (92 D32; log 15). `t` is the state after the write. -/
def enablesMpuUnsafely (t : State) (pc : Word) : Bool :=
  t.mp == 0b01#2 &&
    (!regionsDown.any (regionEnabled t) ||
      mpuCheckAll t .fetch true (byteAddresses pc 4) == .deny)

/-- The value that triggers a software reset is written to SRCR (10_state R60, R61). -/
def triggersReset (s : State) (v : Word) (cr : Cr) : Bool := cr == .srcr && v == s.cfg.srcrMagic

end Sys2Proof.Machine
end

