-- ==== Sys2Proof/Machine/System.lean ====
section
/-! DEFINITION. Privileged, control and special instructions (47_system). -/

namespace Sys2Proof.Machine

/-- MFCR (R492). A register that is not implemented is refused (92 D20; log 27). -/
def execMfcr32 (rz crx sel : BitVec 5) (s : State) : Outcome :=
  privileged s
    (withReg s rz fun z =>
      match crOf s.cfg.hasVbr crx sel with
      | none => .refused .noSuchControlRegister
      | some cr => finish 4 (s.setReg z (readCr s cr)))

/-- MTCR (R493). SRCR_MAGIC to SRCR resets. A write of CCR that enables the MPU against 20_memory R115 is made, and the
boundary after it refuses to go on (92 D32; log 15). -/
def execMtcr32 (rx crz sel : BitVec 5) (s : State) : Outcome :=
  privileged s
    (withReg s rx fun x =>
      match crOf s.cfg.hasVbr crz sel with
      | none => .refused .noSuchControlRegister
      | some cr =>
        if triggersReset s (s.reg x) cr then softwareReset s
        else
          let t := writeCr s (s.reg x) cr
          finish 4 { t with mpuUnsafe := s.mpuUnsafe || (cr == .ccr && enablesMpuUnsafely t s.pc) })

/-- PSRSET: bit 3 selects EE, bit 2 IE; AF and FE select nothing (R494, 92 D15; log 26). -/
def execPsrset32 (imm5 : BitVec 5) (s : State) : Outcome :=
  privileged s
    (finish 4 { s with psr := { s.psr with
      ee := s.psr.ee || imm5.getLsbD 3, ie := s.psr.ie || imm5.getLsbD 2 } })

/-- PSRCLR (R495). -/
def execPsrclr32 (imm5 : BitVec 5) (s : State) : Outcome :=
  privileged s
    (finish 4 { s with psr := { s.psr with
      ee := s.psr.ee && !imm5.getLsbD 3, ie := s.psr.ie && !imm5.getLsbD 2 } })

/-- RTE (R496). -/
def execRte32 (s : State) : Outcome := privileged s (.next s.returnFromException)

/-- NIE: EPC and EPSR to the stack, then EE and IE set; never interrupted part-way (R497, 60_exceptions R633). -/
def execNie16 (s : State) : Outcome :=
  privileged s
    (let sp := s.reg s.spSlot
    withAlignedBase sp false s
      ((storeWords false [(sp - 4, s.epc), (sp - 8, s.epsr)] 0 s).andThen fun t =>
        finish 2 { t.setReg s.spSlot (sp - 8) with psr := { t.psr with ee := true, ie := true } }))

/-- NIR: EPSR and EPC from the stack, SP advanced before PSR is replaced, then as RTE; never interrupted part-way
(R498, 60_exceptions R633). -/
def execNir16 (s : State) : Outcome :=
  privileged s
    (let sp := s.reg s.spSlot
    withAlignedBase sp false s
      ((readData true s sp .word).andThen s fun savedPsr =>
        (readData true s (sp + 4) .word).andThen s fun savedPc =>
          .next (({ s with epsr := savedPsr, epc := savedPc }).setReg s.spSlot (sp + 8)).returnFromException))

/-- The common effect of WAIT, DOZE and STOP: the instruction completes, then the core enters the mode (R500). -/
def enterLowPower (kind : LowPower) (s : State) : Outcome :=
  privileged s (finish 4 { s with mode := .lowPower kind })

/-- WAIT (R501). -/
def execWait32 (s : State) : Outcome := enterLowPower .wait s

/-- DOZE (R502). -/
def execDoze32 (s : State) : Outcome := enterLowPower .doze s

/-- STOP (R503). -/
def execStop32 (s : State) : Outcome := enterLowPower .stop s

/-- TRAP (R510). -/
def execTrap32 (n : BitVec 2) (s : State) : Outcome := takeException (.trap n) s

/-- SYNC: every earlier access is complete, so only the PC advances (R511, 20_memory R121). -/
def execSync32 (s : State) : Outcome := finish 4 s

/-- BMSET (R515). -/
def execBmset32 (s : State) : Outcome := bctmOnly s (finish 4 { s with psr := { s.psr with bm := true } })

/-- BMCLR (R516). -/
def execBmclr32 (s : State) : Outcome := bctmOnly s (finish 4 { s with psr := { s.psr with bm := false } })

/-- BKPT: debug mode when the debug unit has set CSR.FDB, the PC staying at the instruction; else the breakpoint exception
(R520, 60_exceptions R625, R660; log 30). -/
def execBkpt16 (s : State) : Outcome :=
  if s.cfg.hasDebug && s.inputs.fdb then .next { s with mode := .debug } else takeException .breakpoint s

end Sys2Proof.Machine
end

