-- ==== Sys2Proof/Machine/Dispatch.lean ====
section
/-! DEFINITION. The dispatch: one arm per constructor of `Instr`, each one call of its meaning. -/

namespace Sys2Proof.Machine

/-- The effect of an instruction on a state in normal mode whose PC is the instruction's address. -/
def exec (i : Instr) (s : State) : Host.Outcome State Fault Refusal :=
  match i with
  | .addu32 rz rx ry => Sys2Proof.Machine.execAddu32 rz rx ry s
  | .addc32 rz rx ry => Sys2Proof.Machine.execAddc32 rz rx ry s
  | .subu32 rz rx ry => Sys2Proof.Machine.execSubu32 rz rx ry s
  | .subc32 rz rx ry => Sys2Proof.Machine.execSubc32 rz rx ry s
  | .mvc32 rz => Sys2Proof.Machine.execMvc32 rz s
  | .ixh32 rz rx ry => Sys2Proof.Machine.execIxh32 rz rx ry s
  | .ixw32 rz rx ry => Sys2Proof.Machine.execIxw32 rz rx ry s
  | .incf32 rz rx imm5 => Sys2Proof.Machine.execIncf32 rz rx imm5 s
  | .inct32 rz rx imm5 => Sys2Proof.Machine.execInct32 rz rx imm5 s
  | .decf32 rz rx imm5 => Sys2Proof.Machine.execDecf32 rz rx imm5 s
  | .dect32 rz rx imm5 => Sys2Proof.Machine.execDect32 rz rx imm5 s
  | .and32 rz rx ry => Sys2Proof.Machine.execAnd32 rz rx ry s
  | .andn32 rz rx ry => Sys2Proof.Machine.execAndn32 rz rx ry s
  | .or32 rz rx ry => Sys2Proof.Machine.execOr32 rz rx ry s
  | .xor32 rz rx ry => Sys2Proof.Machine.execXor32 rz rx ry s
  | .nor32 rz rx ry => Sys2Proof.Machine.execNor32 rz rx ry s
  | .bclri32 rz rx imm5 => Sys2Proof.Machine.execBclri32 rz rx imm5 s
  | .bseti32 rz rx imm5 => Sys2Proof.Machine.execBseti32 rz rx imm5 s
  | .btsti32 rx imm5 => Sys2Proof.Machine.execBtsti32 rx imm5 s
  | .lsl32 rz rx ry => Sys2Proof.Machine.execLsl32 rz rx ry s
  | .lsr32 rz rx ry => Sys2Proof.Machine.execLsr32 rz rx ry s
  | .asr32 rz rx ry => Sys2Proof.Machine.execAsr32 rz rx ry s
  | .rotl32 rz rx ry => Sys2Proof.Machine.execRotl32 rz rx ry s
  | .lsli32 rz rx imm5 => Sys2Proof.Machine.execLsli32 rz rx imm5 s
  | .lsri32 rz rx imm5 => Sys2Proof.Machine.execLsri32 rz rx imm5 s
  | .asri32 rz rx imm5 => Sys2Proof.Machine.execAsri32 rz rx imm5 s
  | .rotli32 rz rx imm5 => Sys2Proof.Machine.execRotli32 rz rx imm5 s
  | .lslc32 rz rx imm5 => Sys2Proof.Machine.execLslc32 rz rx imm5 s
  | .lsrc32 rz rx imm5 => Sys2Proof.Machine.execLsrc32 rz rx imm5 s
  | .asrc32 rz rx imm5 => Sys2Proof.Machine.execAsrc32 rz rx imm5 s
  | .xsr32 rz rx imm5 => Sys2Proof.Machine.execXsr32 rz rx imm5 s
  | .bmaski32 rz imm5 => Sys2Proof.Machine.execBmaski32 rz imm5 s
  | .xtrb0 rz rx => Sys2Proof.Machine.execXtrb0 rz rx s
  | .xtrb1 rz rx => Sys2Proof.Machine.execXtrb1 rz rx s
  | .xtrb2 rz rx => Sys2Proof.Machine.execXtrb2 rz rx s
  | .xtrb3 rz rx => Sys2Proof.Machine.execXtrb3 rz rx s
  | .ff0 rz rx => Sys2Proof.Machine.execFf0 rz rx s
  | .ff1 rz rx => Sys2Proof.Machine.execFf1 rz rx s
  | .mult32 rz rx ry => Sys2Proof.Machine.execMult32 rz rx ry s
  | .addi32 rz rx imm12 => Sys2Proof.Machine.execAddi32 rz rx imm12 s
  | .subi32 rz rx imm12 => Sys2Proof.Machine.execSubi32 rz rx imm12 s
  | .andi32 rz rx imm12 => Sys2Proof.Machine.execAndi32 rz rx imm12 s
  | .andni32 rz rx imm12 => Sys2Proof.Machine.execAndni32 rz rx imm12 s
  | .xori32 rz rx imm12 => Sys2Proof.Machine.execXori32 rz rx imm12 s
  | .ld32b rz rx imm12 => Sys2Proof.Machine.execLd32b rz rx imm12 s
  | .ld32h rz rx imm12 => Sys2Proof.Machine.execLd32h rz rx imm12 s
  | .ld32w rz rx imm12 => Sys2Proof.Machine.execLd32w rz rx imm12 s
  | .ld32bs rz rx imm12 => Sys2Proof.Machine.execLd32bs rz rx imm12 s
  | .ld32hs rz rx imm12 => Sys2Proof.Machine.execLd32hs rz rx imm12 s
  | .st32b rz rx imm12 => Sys2Proof.Machine.execSt32b rz rx imm12 s
  | .st32h rz rx imm12 => Sys2Proof.Machine.execSt32h rz rx imm12 s
  | .st32w rz rx imm12 => Sys2Proof.Machine.execSt32w rz rx imm12 s
  | .br32 offset => Sys2Proof.Machine.execBr32 offset s
  | .bf32 offset => Sys2Proof.Machine.execBf32 offset s
  | .bt32 offset => Sys2Proof.Machine.execBt32 offset s
  | .movi32 rz imm16 => Sys2Proof.Machine.execMovi32 rz imm16 s
  | .movih32 rz imm16 => Sys2Proof.Machine.execMovih32 rz imm16 s
  | .lrw32 rz offset => Sys2Proof.Machine.execLrw32 rz offset s
  | .cmphsi32 rx imm16 => Sys2Proof.Machine.execCmphsi32 rx imm16 s
  | .cmplti32 rx imm16 => Sys2Proof.Machine.execCmplti32 rx imm16 s
  | .cmpnei32 rx imm16 => Sys2Proof.Machine.execCmpnei32 rx imm16 s
  | .ori32 rz rx imm16 => Sys2Proof.Machine.execOri32 rz rx imm16 s
  | .bsr32 offset => Sys2Proof.Machine.execBsr32 offset s
  | .ldm32 ry rx imm5 => Sys2Proof.Machine.execLdm32 ry rx imm5 s
  | .stm32 ry rx imm5 => Sys2Proof.Machine.execStm32 ry rx imm5 s
  | .sync32 => Sys2Proof.Machine.execSync32 s
  | .bmset32 => Sys2Proof.Machine.execBmset32 s
  | .bmclr32 => Sys2Proof.Machine.execBmclr32 s
  | .trap32 n => Sys2Proof.Machine.execTrap32 n s
  | .rte32 => Sys2Proof.Machine.execRte32 s
  | .stop32 => Sys2Proof.Machine.execStop32 s
  | .wait32 => Sys2Proof.Machine.execWait32 s
  | .doze32 => Sys2Proof.Machine.execDoze32 s
  | .mfcr32 rz crx sel => Sys2Proof.Machine.execMfcr32 rz crx sel s
  | .mtcr32 rx crz sel => Sys2Proof.Machine.execMtcr32 rx crz sel s
  | .psrclr32 imm5 => Sys2Proof.Machine.execPsrclr32 imm5 s
  | .psrset32 imm5 => Sys2Proof.Machine.execPsrset32 imm5 s
  | .bkpt16 => Sys2Proof.Machine.execBkpt16 s
  | .lrw16 rz offset => Sys2Proof.Machine.execLrw16 rz offset s
  | .br16 offset => Sys2Proof.Machine.execBr16 offset s
  | .bt16 offset => Sys2Proof.Machine.execBt16 offset s
  | .bf16 offset => Sys2Proof.Machine.execBf16 offset s
  | .addi16sp imm7 => Sys2Proof.Machine.execAddi16sp imm7 s
  | .subi16sp imm7 => Sys2Proof.Machine.execSubi16sp imm7 s
  | .nie16 => Sys2Proof.Machine.execNie16 s
  | .nir16 => Sys2Proof.Machine.execNir16 s
  | .ipush16 => Sys2Proof.Machine.execIpush16 s
  | .ipop16 => Sys2Proof.Machine.execIpop16 s
  | .pop16 r15 list1 => Sys2Proof.Machine.execPop16 r15 list1 s
  | .push16 r15 list1 => Sys2Proof.Machine.execPush16 r15 list1 s
  | .bpop16h rz => Sys2Proof.Machine.execBpop16h rz s
  | .bpop16w rz => Sys2Proof.Machine.execBpop16w rz s
  | .bpush16h rz => Sys2Proof.Machine.execBpush16h rz s
  | .bpush16w rz => Sys2Proof.Machine.execBpush16w rz s
  | .addi16rsp rz imm8 => Sys2Proof.Machine.execAddi16rsp rz imm8 s
  | .addi16i8 rz imm8 => Sys2Proof.Machine.execAddi16i8 rz imm8 s
  | .subi16i8 rz imm8 => Sys2Proof.Machine.execSubi16i8 rz imm8 s
  | .movi16 rz imm8 => Sys2Proof.Machine.execMovi16 rz imm8 s
  | .cmphsi16 rx imm5 => Sys2Proof.Machine.execCmphsi16 rx imm5 s
  | .cmplti16 rx imm5 => Sys2Proof.Machine.execCmplti16 rx imm5 s
  | .cmpnei16 rx imm5 => Sys2Proof.Machine.execCmpnei16 rx imm5 s
  | .bclri16 rz imm5 => Sys2Proof.Machine.execBclri16 rz imm5 s
  | .bseti16 rz imm5 => Sys2Proof.Machine.execBseti16 rz imm5 s
  | .btsti16 rx imm5 => Sys2Proof.Machine.execBtsti16 rx imm5 s
  | .jmpix16 rx imm2 => Sys2Proof.Machine.execJmpix16 rx imm2 s
  | .lsli16 rz rx imm5 => Sys2Proof.Machine.execLsli16 rz rx imm5 s
  | .lsri16 rz rx imm5 => Sys2Proof.Machine.execLsri16 rz rx imm5 s
  | .asri16 rz rx imm5 => Sys2Proof.Machine.execAsri16 rz rx imm5 s
  | .addu16r3 rz rx ry => Sys2Proof.Machine.execAddu16r3 rz rx ry s
  | .subu16r3 rz rx ry => Sys2Proof.Machine.execSubu16r3 rz rx ry s
  | .addi16i3 rz rx imm3 => Sys2Proof.Machine.execAddi16i3 rz rx imm3 s
  | .subi16i3 rz rx imm3 => Sys2Proof.Machine.execSubi16i3 rz rx imm3 s
  | .addu16 rz rx => Sys2Proof.Machine.execAddu16 rz rx s
  | .addc16 rz rx => Sys2Proof.Machine.execAddc16 rz rx s
  | .subu16 rz rx => Sys2Proof.Machine.execSubu16 rz rx s
  | .subc16 rz rx => Sys2Proof.Machine.execSubc16 rz rx s
  | .cmphs16 rx ry => Sys2Proof.Machine.execCmphs16 rx ry s
  | .cmplt16 rx ry => Sys2Proof.Machine.execCmplt16 rx ry s
  | .cmpne16 rx ry => Sys2Proof.Machine.execCmpne16 rx ry s
  | .mvcv16 rz => Sys2Proof.Machine.execMvcv16 rz s
  | .and16 rz rx => Sys2Proof.Machine.execAnd16 rz rx s
  | .andn16 rz rx => Sys2Proof.Machine.execAndn16 rz rx s
  | .tst16 rx ry => Sys2Proof.Machine.execTst16 rx ry s
  | .tstnbz16 rx => Sys2Proof.Machine.execTstnbz16 rx s
  | .or16 rz rx => Sys2Proof.Machine.execOr16 rz rx s
  | .xor16 rz rx => Sys2Proof.Machine.execXor16 rz rx s
  | .nor16 rz rx => Sys2Proof.Machine.execNor16 rz rx s
  | .mov16 rz rx => Sys2Proof.Machine.execMov16 rz rx s
  | .lsl16 rz rx => Sys2Proof.Machine.execLsl16 rz rx s
  | .lsr16 rz rx => Sys2Proof.Machine.execLsr16 rz rx s
  | .asr16 rz rx => Sys2Proof.Machine.execAsr16 rz rx s
  | .rotl16 rz rx => Sys2Proof.Machine.execRotl16 rz rx s
  | .zextb16 rz rx => Sys2Proof.Machine.execZextb16 rz rx s
  | .zexth16 rz rx => Sys2Proof.Machine.execZexth16 rz rx s
  | .sextb16 rz rx => Sys2Proof.Machine.execSextb16 rz rx s
  | .sexth16 rz rx => Sys2Proof.Machine.execSexth16 rz rx s
  | .jmp16 rx => Sys2Proof.Machine.execJmp16 rx s
  | .jsr16 rx => Sys2Proof.Machine.execJsr16 rx s
  | .revb16 rz rx => Sys2Proof.Machine.execRevb16 rz rx s
  | .revh16 rz rx => Sys2Proof.Machine.execRevh16 rz rx s
  | .mult16 rz rx => Sys2Proof.Machine.execMult16 rz rx s
  | .ld16b rz rx imm5 => Sys2Proof.Machine.execLd16b rz rx imm5 s
  | .ld16h rz rx imm5 => Sys2Proof.Machine.execLd16h rz rx imm5 s
  | .ld16w rz rx imm5 => Sys2Proof.Machine.execLd16w rz rx imm5 s
  | .st16b rz rx imm5 => Sys2Proof.Machine.execSt16b rz rx imm5 s
  | .st16h rz rx imm5 => Sys2Proof.Machine.execSt16h rz rx imm5 s
  | .st16w rz rx imm5 => Sys2Proof.Machine.execSt16w rz rx imm5 s
  | .ld16wsp rz imm8 => Sys2Proof.Machine.execLd16wsp rz imm8 s
  | .st16wsp rz imm8 => Sys2Proof.Machine.execSt16wsp rz imm8 s

end Sys2Proof.Machine
end

