-- ==== Sys2Proof/Machine/Run.lean ====
section
/-! DEFINITION. One step of the machine: fetch and decode (20_memory R97, 30_encoding R170), what happens at an
instruction boundary (60_exceptions R632, R634), low-power modes (R641), debug mode (R660 to R662), reset (70_reset R702), and
how the environment's schedule moves on (log 7). -/

namespace Sys2Proof.Machine

/-! ### Fetch and decode -/

/-- What the fetch at the PC finds. -/
inductive Fetched
  | instr (i : Instr)
  | exc (e : Exc)
  | refuse (r : Refusal)
  deriving DecidableEq, Repr

/-- An encoding that is no instruction raises the illegal instruction exception (30_encoding R155, R156). -/
def Fetched.ofDecoded : Decoded → Fetched
  | .instr i _ => .instr i
  | .illegal16 _ => .exc .illegal
  | .illegal32 _ => .exc .illegal
  | .truncated => .exc .illegal

/-- Fetches the halfword at the PC and, for a 32-bit instruction, the next one; then decodes (20_memory R97,
30_encoding R170). -/
def fetchDecode (s : State) : Fetched :=
  match fetchHalf s s.pc with
  | .exc e => .exc e
  | .refuse r => .refuse r
  | .done h =>
    if isLong h then
      match fetchHalf s (s.pc + 2) with
      | .exc e => .exc e
      | .refuse r => .refuse r
      | .done l => Fetched.ofDecoded (decode [h, l])
    else Fetched.ofDecoded (decode [h])

/-- Fetches, decodes and executes the instruction at the PC (60_exceptions R631). -/
def runInstr (s : State) : Outcome :=
  match fetchDecode s with
  | .instr i => exec i s
  | .exc e => takeException e s
  | .refuse r => .refused r

/-! ### Boundaries and modes -/

/-- A request for debug mode, on a core with the debug interface (60_exceptions R660). -/
def State.debugRequested (s : State) : Bool := s.cfg.hasDebug && s.inputs.debugReq

/-- The interrupt that is taken at this boundary: visible, and IE and EE set (60_exceptions R628, R632; log 18). -/
def State.pendingInterrupt (s : State) : Option Byte := if s.interruptsEnabled then s.inputs.intReq else none

/-- An instruction boundary in normal mode: debug request, then interrupt, then the next instruction (60_exceptions R632,
R634). After the MPU was enabled against 20_memory R115 nothing is said of the run (92 D32; log 15). -/
def boundary (s : State) : Outcome :=
  if s.mpuUnsafe then .refused .mpuEnableUnsafe
  else if s.debugRequested then .next { s with mode := .debug }
  else
    match s.pendingInterrupt with
    | some v => takeInterrupt v s
    | none => runInstr s

/-- A step in a low-power mode: a debug request enters debug mode, the raw interrupt request returns to normal mode and the
ordinary boundary follows, otherwise nothing happens (60_exceptions R641, R643, 92 D23; log 29). -/
def lowPowerStep (s : State) : Outcome :=
  if s.debugRequested then .next { s with mode := .debug }
  else if s.inputs.intRaw then boundary { s with mode := .normal }
  else .next s

/-- A step in debug mode: one action of the debug host (60_exceptions R661, R662; log 30). DESIGN CHOICE, safe, log 28: on a
core with a cache a byte the host writes counts as stored, so that its later fetch is refused; the spec is silent. -/
def debugStep (s : State) : Outcome :=
  match s.inputs.debugCmd with
  | .idle => .next s
  | .writeReg r v => .next (s.setReg r v)
  | .writePc v => .next (s.setPc v)
  | .writeCr n sel v =>
    match crOf s.cfg.hasVbr n sel with
    | none => .refused .noSuchControlRegister
    | some cr => if triggersReset s v cr then softwareReset s else .next (writeCr s v cr)
  | .writeByte a b => .next { s with mem := s.mem.write a b, written := noteStored s [a] }
  | .resume =>
    if s.resetPhase = .onDebugExit then takeReset s else .next { s with mode := .normal }

/-- A step in normal mode. -/
def normalStep (s : State) : Outcome :=
  match s.resetPhase with
  | .running => boundary s
  | .vectorPending => readResetVector s
  | .onDebugExit => takeReset s

/-- One step with the inputs of this boundary; reset comes first (60_exceptions R630, R632). -/
def stepCore (s : State) : Outcome :=
  if s.inputs.reset then takeReset s
  else
    match s.mode with
    | .normal => normalStep s
    | .lowPower _ => lowPowerStep s
    | .debug => debugStep s

/-! ### The environment -/

/-- The inputs of the next boundary: the next of the schedule, or the same again (log 7). -/
def State.tick (s : State) : State :=
  match s.schedule with
  | [] => s
  | i :: rest => { s with inputs := i, schedule := rest }

/-- A step with the environment moved on after it. -/
def tickOutcome : Outcome → Outcome
  | .next s => .next s.tick
  | .fault f => .fault f
  | .refused r => .refused r

/-! ### Placing an instruction -/

/-- The bits of a row of the opcode table stored at the PC, in fetch order and in the configured byte order. -/
def placeHalves (bigEndian : Bool) (m : Memory) (a : Word) : List Half → Memory
  | [] => m
  | h :: rest => placeHalves bigEndian (m.store bigEndian a .half (h.zeroExtend 32)) (a + 2) rest

/-- The state with an instruction placed where the next step fetches, in normal mode, with no reset, debug request or
interrupt in its way (log 5). -/
def placeInstruction (s : State) (nbits w : Nat) : State :=
  { s with
    mem := placeHalves s.cfg.bigEndian s.mem s.pc (tableHalves nbits w)
    mode := .normal
    resetPhase := .running
    mpuUnsafe := false
    inputs := { s.inputs with reset := false, debugReq := false, intReq := none } }

end Sys2Proof.Machine
end

