-- ==== Sys2Proof/Machine/Step.lean ====
section
/-! DEFINITION. The step of the machine, and the placing of one instruction for the host. Both only call Run.lean. -/

namespace Sys2Proof.Machine

/-- One step: an instruction, or an exception, interrupt, reset or idle step (60_exceptions R632). -/
def step (s : State) : Host.Outcome State Fault Refusal := tickOutcome (stepCore s)

/-- `s` with the bits of a row of opcode_table.json stored where the next step fetches (log 5). -/
def State.withFetchWord (s : State) (nbits w : Nat) : State := placeInstruction s nbits w

end Sys2Proof.Machine
end

