-- ==== Sys2Proof/Safety.lean ====
section
/-! DEFINITION. What a state of a run satisfies, and what a safe outcome is, in the words the statements use. -/

namespace Sys2Proof.Machine

/-- The facts the spec gives about every state: what a register can hold, and which modes a configuration has. -/
structure State.Inv (s : State) : Prop where
  /-- Bit 0 of the PC is always 0 (10_state R25). -/
  pcEven : s.pc.getLsbD 0 = false
  /-- Memory keeps its canonical form (log 4). -/
  memWf : s.mem.wf = true
  /-- VBR bits 9:0 are 0 (10_state R44). -/
  vbrAligned : s.vbr &&& 0x3FF#32 = 0
  /-- VBR is constantly 0 where it does not exist (10_state R44). -/
  vbrAbsent : s.cfg.hasVbr = false → s.vbr = 0
  /-- PSR.BM is constantly 0 without the binary code translation mechanism (10_state R40). -/
  bmAbsent : s.cfg.hasBctm = false → s.psr.bm = false
  /-- GCR has only its implemented bits (92 D8). -/
  gcrWidth : s.gcr &&& lowMask s.cfg.gcrWidth.val = s.gcr
  /-- CAPR has only the bits of existing regions (92 D6). -/
  caprRegions : s.capr &&& caprMask s.cfg.mpuRegions.val = s.capr
  /-- PACR bits 9:6 are 0 (10_state R52). -/
  pacrReserved : ∀ i : Fin 8, s.pacr[i] &&& pacrMask = s.pacr[i]
  /-- The PACR of a region that does not exist is 0 (92 D6). -/
  pacrRegions : ∀ i : Fin 8, s.cfg.mpuRegions.val ≤ i.val → s.pacr[i] = 0
  /-- Without regions CCR.MP and PRSR.RID are 0 (92 D6). -/
  mpuAbsent : s.cfg.mpuRegions.val = 0 → s.mp = 0 ∧ s.rid = 0
  /-- Without the debug interface the core is never in debug mode (92 D31). -/
  debugAbsent : s.cfg.hasDebug = false → s.mode ≠ .debug
  /-- A reset waits for the end of debug mode only in debug mode (10_state R62). -/
  resetWaits : s.resetPhase = .onDebugExit → s.mode = .debug

/-- A step that ends in a next state: no stuck machine, nothing refused. -/
def Completes (o : Outcome) : Prop := ∃ t, o = .next t

/-- The privilege level of a state (60_exceptions R646). -/
def State.supervisor (s : State) : Bool := s.psr.s

/-! ### When accesses go through -/

/-- Every byte of an access passes the MPU and no address it shows on the bus is answered with an error
(20_memory R95, R96, R99). -/
def Permits (s : State) (kind : AccessKind) (supervisor : Bool) (bytes bus : List Word) : Prop :=
  (∀ a ∈ bytes, mpuCheck s kind supervisor a = .permit) ∧ ∀ a ∈ bus, busError s kind a = false

/-- A read of width `w` at `a` goes to the address `b` and is permitted in the current mode (20_memory R95). -/
def CanRead (s : State) (a : Word) (w : Width) (b : Word) : Prop :=
  effectiveAddress s false a w = some b ∧ Permits s .read s.psr.s (byteAddresses b w.bytes) (busReadAddresses b w)

/-- A write of width `w` at `a` goes to the address `b` and is permitted in the current mode (20_memory R96). -/
def CanWrite (s : State) (a : Word) (w : Width) (b : Word) : Prop :=
  effectiveAddress s false a w = some b ∧
    Permits s .write s.psr.s (byteAddresses b w.bytes) (byteAddresses b w.bytes)

/-- The word at `a` can be read by an instruction that transfers several (20_memory R92, 46_loadstore R445). -/
def CanReadWord (s : State) (a : Word) : Prop :=
  aligned a .word = true ∧ Permits s .read s.psr.s (byteAddresses a 4) (byteAddresses a 4)

/-- The word at `a` can be written by an instruction that transfers several (20_memory R92, 46_loadstore R445). -/
def CanWriteWord (s : State) (a : Word) : Prop :=
  aligned a .word = true ∧ Permits s .write s.psr.s (byteAddresses a 4) (byteAddresses a 4)

/-- The k-th word from `a` on. -/
def wordAt (a : Word) (k : Nat) : Word := a + BitVec.ofNat 32 (4 * k)

/-- No interrupt comes in the middle of a transfer (60_exceptions R633). -/
def Uninterrupted (s : State) : Prop := ∀ n, s.interruptAfter n = none

/-- `n` bytes of code at the PC can be fetched in the current mode, and were not stored to on a core with a cache
(20_memory R97; log 28). -/
def CanFetch (s : State) (n : Nat) : Prop :=
  Permits s .fetch s.psr.s (byteAddresses s.pc n) (byteAddresses s.pc n) ∧
    rewritten s (byteAddresses s.pc n) = false

/-- The halfword of memory at an address. -/
def halfAt (s : State) (a : Word) : Half := (s.mem.load s.cfg.bigEndian a .half).extractLsb' 0 16

/-- The next step takes an instruction boundary in normal mode and neither reset, debug request nor interrupt comes first
(60_exceptions R632). -/
def Undisturbed (s : State) : Prop :=
  s.mode = .normal ∧ s.resetPhase = .running ∧ s.mpuUnsafe = false ∧ s.inputs.reset = false ∧
    s.debugRequested = false ∧ s.pendingInterrupt = none

/-- The bytes of `n` words from `a` on. -/
def wordBytes (a : Word) (n : Nat) : List Word := byteAddresses a (4 * n)

/-- The words `vs` stand in the memory of `t` from `a` on, and every other byte is as in `s`. -/
def StoredWords (s t : State) (a : Word) (vs : List Word) : Prop :=
  (∀ (k : Nat) (h : k < vs.length), t.mem.load s.cfg.bigEndian (wordAt a k) .word = vs[k]) ∧
    ∀ b ∉ wordBytes a vs.length, t.mem.read b = s.mem.read b

/-- The registers of `t` that are not in `l` are as in `s`. -/
def KeepsOthers (s t : State) (l : List Slot) : Prop := ∀ r ∉ l, t.reg r = s.reg r

/-- An access is answered with the access error: a byte of it is denied by the MPU and every byte before that one is
permitted, or all are permitted and the bus answers with an error (20_memory R95, R114). -/
def Denies (s : State) (kind : AccessKind) (supervisor : Bool) (bytes bus : List Word) : Prop :=
  (∃ before a after, bytes = before ++ a :: after ∧ (∀ b ∈ before, mpuCheck s kind supervisor b = .permit) ∧
      mpuCheck s kind supervisor a = .deny) ∨
    (∀ a ∈ bytes, mpuCheck s kind supervisor a = .permit) ∧ ∃ a ∈ bus, busError s kind a = true

/-- The vector word of an exception can be read by supervisor mode (20_memory R117), on a core with a cache also where the
program has stored it (the model's choice, log 28). -/
def VectorReadable (s : State) (v : Byte) : Prop :=
  Permits s .fetch true (byteAddresses (s.vectorAddress v) 4) (byteAddresses (s.vectorAddress v) 4)

/-- What exception entry leaves: PSR and an address saved, S, VEC, EE and IE changed, the PC from the vector word; everything
else as before (60_exceptions R610, R612). -/
def afterEntry (s : State) (v : Byte) (saved : Word) : State :=
  { s with
    epsr := s.psr.toWord
    epc := saved
    psr := { s.psr with s := true, vec := v, ee := false, ie := false }
    pc := s.mem.load s.cfg.bigEndian ((if s.cfg.hasVbr then s.vbr &&& 0xFFFFFC00#32 else 0) + 4 * v.zeroExtend 32) .word &&&
      0xFFFFFFFE#32
    mode := .normal }

/-- An exception with vector `v` is taken at the instruction: with `v` if EE is set, with 8 if not (60_exceptions R626; that
vector 8 is entered as any other is 92 D18, log 17). -/
def Traps (s : State) (v : Byte) (o : Outcome) : Prop :=
  VectorReadable s (if s.psr.ee then v else 8) → o = .next (afterEntry s (if s.psr.ee then v else 8) s.pc)

/-- How an instruction stops that has made `n` of its transfers, whose next one is at `a`, and has so come to the state `u`:
with the access error exception if that access fails, with a presented interrupt if PSR.IC, IE and EE are set
(46_loadstore R445 c, 60_exceptions R633; what `u` is, is the spec's decision 92 D29, D37, log 19 and 20). A vector below 32 is
refused, the spec's decision 92 D19, log 18. -/
def StopsAfter (i : Instr) (s : State) (kind : AccessKind) (n : Nat) (a : Word) (u : State) : Prop :=
  (Uninterrupted s → Denies s kind s.psr.s (byteAddresses a 4) (byteAddresses a 4) → Traps u 2 (exec i s)) ∧
    ∀ v : Byte, s.psr.ic = true → s.psr.ie = true → s.psr.ee = true → s.inputs.midIrq = some (n, v) →
      (32 ≤ v.toNat → VectorReadable u v → exec i s = .next (afterEntry u v s.pc)) ∧
      (v.toNat < 32 → exec i s = .refused .interruptVectorReserved)

/-- The spec says of no access what the MPU does with it, which is refused as `r`: CCR.MP is 10 or 11 (93 U6), or it is 01 and
an enabled region has a reserved size or a base that is not aligned to its size (93 U1, U2, 92 D28; log 15). -/
def MpuUndefined (s : State) (r : Refusal) : Prop :=
  s.cfg.mpuRegions ≠ 0 ∧ (s.mp = 2 ∨ s.mp = 3) ∧ r = .mpuModeUndefined ∨
  s.mp = 1 ∧ r = .mpuRegionMalformed ∧ ∃ i : Fin 8, i.val < s.cfg.mpuRegions.val ∧ (s.pacr[i]).getLsbD 0 = true ∧
    let size := (s.pacr[i]).toNat / 2 % 32
    (size < 9 ∨ (s.pacr[i]).toNat / 2 ^ 10 * 2 ^ 10 % 2 ^ (size + 1) ≠ 0)

/-- What the reset of a machine in the state `s` leaves, as far as the spec determines it (10_state R70, 70_reset R701,
R702). -/
def AfterReset (s t : State) : Prop :=
  t.psr = Psr.reset ∧ t.vbr = 0 ∧ t.mp = 0 ∧ t.capr = 0 ∧ (∀ i : Fin 8, (t.pacr[i]).getLsbD 0 = false) ∧
    t.mode = .normal ∧ t.resetPhase = .running ∧ t.mem = s.mem ∧ t.cfg = s.cfg ∧
    t.pc = s.mem.load s.cfg.bigEndian 0 .word &&& 0xFFFFFFFE#32

/-- Applies a function to the next state of an outcome. -/
def mapNext (f : State → State) : Outcome → Outcome
  | .next s => .next (f s)
  | .fault x => .fault x
  | .refused r => .refused r

/-! ### What an instruction may touch -/

/-- The general registers an instruction may write in the state `s`: its destination, the registers of its list, and those
the spec says it also updates (the stack pointer, R15, BSP). A software reset, which writes all, is not counted. -/
def destinations (s : State) : Instr → List Slot
  | .addu32 rz _ _ => (s.slotOf rz).toList
  | .addc32 rz _ _ => (s.slotOf rz).toList
  | .subu32 rz _ _ => (s.slotOf rz).toList
  | .subc32 rz _ _ => (s.slotOf rz).toList
  | .mvc32 rz => (s.slotOf rz).toList
  | .ixh32 rz _ _ => (s.slotOf rz).toList
  | .ixw32 rz _ _ => (s.slotOf rz).toList
  | .incf32 rz _ _ => (s.slotOf rz).toList
  | .inct32 rz _ _ => (s.slotOf rz).toList
  | .decf32 rz _ _ => (s.slotOf rz).toList
  | .dect32 rz _ _ => (s.slotOf rz).toList
  | .and32 rz _ _ => (s.slotOf rz).toList
  | .andn32 rz _ _ => (s.slotOf rz).toList
  | .or32 rz _ _ => (s.slotOf rz).toList
  | .xor32 rz _ _ => (s.slotOf rz).toList
  | .nor32 rz _ _ => (s.slotOf rz).toList
  | .bclri32 rz _ _ => (s.slotOf rz).toList
  | .bseti32 rz _ _ => (s.slotOf rz).toList
  | .lsl32 rz _ _ => (s.slotOf rz).toList
  | .lsr32 rz _ _ => (s.slotOf rz).toList
  | .asr32 rz _ _ => (s.slotOf rz).toList
  | .rotl32 rz _ _ => (s.slotOf rz).toList
  | .lsli32 rz _ _ => (s.slotOf rz).toList
  | .lsri32 rz _ _ => (s.slotOf rz).toList
  | .asri32 rz _ _ => (s.slotOf rz).toList
  | .rotli32 rz _ _ => (s.slotOf rz).toList
  | .lslc32 rz _ _ => (s.slotOf rz).toList
  | .lsrc32 rz _ _ => (s.slotOf rz).toList
  | .asrc32 rz _ _ => (s.slotOf rz).toList
  | .xsr32 rz _ _ => (s.slotOf rz).toList
  | .bmaski32 rz _ => (s.slotOf rz).toList
  | .xtrb0 rz _ => (s.slotOf rz).toList
  | .xtrb1 rz _ => (s.slotOf rz).toList
  | .xtrb2 rz _ => (s.slotOf rz).toList
  | .xtrb3 rz _ => (s.slotOf rz).toList
  | .ff0 rz _ => (s.slotOf rz).toList
  | .ff1 rz _ => (s.slotOf rz).toList
  | .mult32 rz _ _ => (s.slotOf rz).toList
  | .addi32 rz _ _ => (s.slotOf rz).toList
  | .subi32 rz _ _ => (s.slotOf rz).toList
  | .andi32 rz _ _ => (s.slotOf rz).toList
  | .andni32 rz _ _ => (s.slotOf rz).toList
  | .xori32 rz _ _ => (s.slotOf rz).toList
  | .ld32b rz _ _ => (s.slotOf rz).toList
  | .ld32h rz _ _ => (s.slotOf rz).toList
  | .ld32w rz _ _ => (s.slotOf rz).toList
  | .ld32bs rz _ _ => (s.slotOf rz).toList
  | .ld32hs rz _ _ => (s.slotOf rz).toList
  | .movi32 rz _ => (s.slotOf rz).toList
  | .movih32 rz _ => (s.slotOf rz).toList
  | .lrw32 rz _ => (s.slotOf rz).toList
  | .ori32 rz _ _ => (s.slotOf rz).toList
  | .bsr32 _ => [slotLr]
  | .ldm32 ry _ imm5 => (ldmList s.psr.s ry imm5).getD []
  | .mfcr32 rz _ _ => (s.slotOf rz).toList
  | .mtcr32 _ crz sel => if crOf s.cfg.hasVbr crz sel = some .userSp then [slotUserSp] else []
  | .lrw16 rz _ => [slot3 rz]
  | .addi16sp _ => [s.spSlot]
  | .subi16sp _ => [s.spSlot]
  | .nie16 => [s.spSlot]
  | .nir16 => [s.spSlot]
  | .ipush16 => [s.spSlot]
  | .ipop16 => s.spSlot :: interruptList
  | .pop16 r15 list1 => s.spSlot :: pushPopList r15 list1
  | .push16 _ _ => [s.spSlot]
  | .bpop16h rz => [slot3 rz, slotBsp, slotLr]
  | .bpop16w rz => [slot3 rz, slotBsp, slotLr]
  | .bpush16h _ => [slotBsp, slotLr]
  | .bpush16w _ => [slotBsp, slotLr]
  | .addi16rsp rz _ => [slot3 rz]
  | .addi16i8 rz _ => [slot3 rz]
  | .subi16i8 rz _ => [slot3 rz]
  | .movi16 rz _ => [slot3 rz]
  | .bclri16 rz _ => [slot3 rz]
  | .bseti16 rz _ => [slot3 rz]
  | .lsli16 rz _ _ => [slot3 rz]
  | .lsri16 rz _ _ => [slot3 rz]
  | .asri16 rz _ _ => [slot3 rz]
  | .addu16r3 rz _ _ => [slot3 rz]
  | .subu16r3 rz _ _ => [slot3 rz]
  | .addi16i3 rz _ _ => [slot3 rz]
  | .subi16i3 rz _ _ => [slot3 rz]
  | .addu16 rz _ => [slot4 s.psr.s rz]
  | .addc16 rz _ => [slot4 s.psr.s rz]
  | .subu16 rz _ => [slot4 s.psr.s rz]
  | .subc16 rz _ => [slot4 s.psr.s rz]
  | .mvcv16 rz => [slot4 s.psr.s rz]
  | .and16 rz _ => [slot4 s.psr.s rz]
  | .andn16 rz _ => [slot4 s.psr.s rz]
  | .or16 rz _ => [slot4 s.psr.s rz]
  | .xor16 rz _ => [slot4 s.psr.s rz]
  | .nor16 rz _ => [slot4 s.psr.s rz]
  | .mov16 rz _ => [slot4 s.psr.s rz]
  | .lsl16 rz _ => [slot4 s.psr.s rz]
  | .lsr16 rz _ => [slot4 s.psr.s rz]
  | .asr16 rz _ => [slot4 s.psr.s rz]
  | .rotl16 rz _ => [slot4 s.psr.s rz]
  | .zextb16 rz _ => [slot4 s.psr.s rz]
  | .zexth16 rz _ => [slot4 s.psr.s rz]
  | .sextb16 rz _ => [slot4 s.psr.s rz]
  | .sexth16 rz _ => [slot4 s.psr.s rz]
  | .jsr16 _ => [slotLr]
  | .revb16 rz _ => [slot4 s.psr.s rz]
  | .revh16 rz _ => [slot4 s.psr.s rz]
  | .mult16 rz _ => [slot4 s.psr.s rz]
  | .ld16b rz _ _ => [slot3 rz]
  | .ld16h rz _ _ => [slot3 rz]
  | .ld16w rz _ _ => [slot3 rz]
  | .ld16wsp rz _ => [slot3 rz]
  | .btsti32 .. | .st32b .. | .st32h .. | .st32w .. | .br32 .. | .bf32 .. | .bt32 .. | .cmphsi32 .. | .cmplti32 ..
  | .cmpnei32 .. | .stm32 .. | .sync32 .. | .bmset32 .. | .bmclr32 .. | .trap32 .. | .rte32 .. | .stop32 ..
  | .wait32 .. | .doze32 .. | .psrclr32 .. | .psrset32 .. | .bkpt16 .. | .br16 .. | .bt16 .. | .bf16 ..
  | .cmphsi16 .. | .cmplti16 .. | .cmpnei16 .. | .btsti16 .. | .jmpix16 .. | .cmphs16 .. | .cmplt16 ..
  | .cmpne16 .. | .tst16 .. | .tstnbz16 .. | .jmp16 .. | .st16b .. | .st16h .. | .st16w .. | .st16wsp .. => []

/-- The bytes of an access at `a`, at the address it goes to after alignment (20_memory R91). -/
def dataBytes (s : State) (a : Word) (w : Width) : List Word :=
  match effectiveAddress s false a w with
  | some b => byteAddresses b w.bytes
  | none => []

/-- The byte addresses an instruction may store to in the state `s`. -/
def storeTargets (s : State) : Instr → List Word
  | .st32b _ rx imm12 => ((s.slotOf rx).map fun x => dataBytes s (s.reg x + scaled imm12 0) .byte).getD []
  | .st32h _ rx imm12 => ((s.slotOf rx).map fun x => dataBytes s (s.reg x + scaled imm12 1) .half).getD []
  | .st32w _ rx imm12 => ((s.slotOf rx).map fun x => dataBytes s (s.reg x + scaled imm12 2) .word).getD []
  | .st16b _ rx imm5 => dataBytes s (s.reg3 rx + scaled imm5 0) .byte
  | .st16h _ rx imm5 => dataBytes s (s.reg3 rx + scaled imm5 1) .half
  | .st16w _ rx imm5 => dataBytes s (s.reg3 rx + scaled imm5 2) .word
  | .st16wsp _ imm8 => dataBytes s (s.reg s.spSlot + scaled imm8 2) .word
  | .stm32 _ rx imm5 => ((s.slotOf rx).map fun x => wordBytes (s.reg x) (imm5.toNat + 1)).getD []
  | .push16 r15 list1 =>
    let n := (pushPopList r15 list1).length
    wordBytes (s.reg s.spSlot - BitVec.ofNat 32 (4 * n)) n
  | .ipush16 => wordBytes (s.reg s.spSlot - 24) 6
  | .nie16 => wordBytes (s.reg s.spSlot - 8) 2
  | .bpush16h _ => dataBytes s (s.reg slotBsp) .half
  | .bpush16w _ => dataBytes s (s.reg slotBsp) .word
  | .addu32 .. | .addc32 .. | .subu32 .. | .subc32 .. | .mvc32 .. | .ixh32 .. | .ixw32 .. | .incf32 .. | .inct32 ..
  | .decf32 .. | .dect32 .. | .and32 .. | .andn32 .. | .or32 .. | .xor32 .. | .nor32 .. | .bclri32 .. | .bseti32 ..
  | .btsti32 .. | .lsl32 .. | .lsr32 .. | .asr32 .. | .rotl32 .. | .lsli32 .. | .lsri32 .. | .asri32 ..
  | .rotli32 .. | .lslc32 .. | .lsrc32 .. | .asrc32 .. | .xsr32 .. | .bmaski32 .. | .xtrb0 .. | .xtrb1 ..
  | .xtrb2 .. | .xtrb3 .. | .ff0 .. | .ff1 .. | .mult32 .. | .addi32 .. | .subi32 .. | .andi32 .. | .andni32 ..
  | .xori32 .. | .ld32b .. | .ld32h .. | .ld32w .. | .ld32bs .. | .ld32hs .. | .br32 .. | .bf32 .. | .bt32 ..
  | .movi32 .. | .movih32 .. | .lrw32 .. | .cmphsi32 .. | .cmplti32 .. | .cmpnei32 .. | .ori32 .. | .bsr32 ..
  | .ldm32 .. | .sync32 .. | .bmset32 .. | .bmclr32 .. | .trap32 .. | .rte32 .. | .stop32 .. | .wait32 ..
  | .doze32 .. | .mfcr32 .. | .mtcr32 .. | .psrclr32 .. | .psrset32 .. | .bkpt16 .. | .lrw16 .. | .br16 ..
  | .bt16 .. | .bf16 .. | .addi16sp .. | .subi16sp .. | .nir16 .. | .ipop16 .. | .pop16 .. | .bpop16h ..
  | .bpop16w .. | .addi16rsp .. | .addi16i8 .. | .subi16i8 .. | .movi16 .. | .cmphsi16 .. | .cmplti16 ..
  | .cmpnei16 .. | .bclri16 .. | .bseti16 .. | .btsti16 .. | .jmpix16 .. | .lsli16 .. | .lsri16 .. | .asri16 ..
  | .addu16r3 .. | .subu16r3 .. | .addi16i3 .. | .subi16i3 .. | .addu16 .. | .addc16 .. | .subu16 .. | .subc16 ..
  | .cmphs16 .. | .cmplt16 .. | .cmpne16 .. | .mvcv16 .. | .and16 .. | .andn16 .. | .tst16 .. | .tstnbz16 ..
  | .or16 .. | .xor16 .. | .nor16 .. | .mov16 .. | .lsl16 .. | .lsr16 .. | .asr16 .. | .rotl16 .. | .zextb16 ..
  | .zexth16 .. | .sextb16 .. | .sexth16 .. | .jmp16 .. | .jsr16 .. | .revb16 .. | .revh16 .. | .mult16 ..
  | .ld16b .. | .ld16h .. | .ld16w .. | .ld16wsp .. => []

/-- The instructions that may write the C bit (10_state R29). -/
def writesC : Instr → Bool
  | .addc32 .. | .subc32 .. | .btsti32 .. | .lslc32 .. | .lsrc32 .. | .asrc32 .. | .xsr32 .. | .xtrb0 ..
  | .xtrb1 .. | .xtrb2 .. | .xtrb3 .. | .cmphsi32 .. | .cmplti32 .. | .cmpnei32 .. | .rte32 .. | .mtcr32 ..
  | .nir16 .. | .cmphsi16 .. | .cmplti16 .. | .cmpnei16 .. | .btsti16 .. | .addc16 .. | .subc16 .. | .cmphs16 ..
  | .cmplt16 .. | .cmpne16 .. | .tst16 .. | .tstnbz16 .. => true
  | .addu32 .. | .subu32 .. | .mvc32 .. | .ixh32 .. | .ixw32 .. | .incf32 .. | .inct32 .. | .decf32 .. | .dect32 ..
  | .and32 .. | .andn32 .. | .or32 .. | .xor32 .. | .nor32 .. | .bclri32 .. | .bseti32 .. | .lsl32 .. | .lsr32 ..
  | .asr32 .. | .rotl32 .. | .lsli32 .. | .lsri32 .. | .asri32 .. | .rotli32 .. | .bmaski32 .. | .ff0 .. | .ff1 ..
  | .mult32 .. | .addi32 .. | .subi32 .. | .andi32 .. | .andni32 .. | .xori32 .. | .ld32b .. | .ld32h ..
  | .ld32w .. | .ld32bs .. | .ld32hs .. | .st32b .. | .st32h .. | .st32w .. | .br32 .. | .bf32 .. | .bt32 ..
  | .movi32 .. | .movih32 .. | .lrw32 .. | .ori32 .. | .bsr32 .. | .ldm32 .. | .stm32 .. | .sync32 .. | .bmset32 ..
  | .bmclr32 .. | .trap32 .. | .stop32 .. | .wait32 .. | .doze32 .. | .mfcr32 .. | .psrclr32 .. | .psrset32 ..
  | .bkpt16 .. | .lrw16 .. | .br16 .. | .bt16 .. | .bf16 .. | .addi16sp .. | .subi16sp .. | .nie16 .. | .ipush16 ..
  | .ipop16 .. | .pop16 .. | .push16 .. | .bpop16h .. | .bpop16w .. | .bpush16h .. | .bpush16w .. | .addi16rsp ..
  | .addi16i8 .. | .subi16i8 .. | .movi16 .. | .bclri16 .. | .bseti16 .. | .jmpix16 .. | .lsli16 .. | .lsri16 ..
  | .asri16 .. | .addu16r3 .. | .subu16r3 .. | .addi16i3 .. | .subi16i3 .. | .addu16 .. | .subu16 .. | .mvcv16 ..
  | .and16 .. | .andn16 .. | .or16 .. | .xor16 .. | .nor16 .. | .mov16 .. | .lsl16 .. | .lsr16 .. | .asr16 ..
  | .rotl16 .. | .zextb16 .. | .zexth16 .. | .sextb16 .. | .sexth16 .. | .jmp16 .. | .jsr16 .. | .revb16 ..
  | .revh16 .. | .mult16 .. | .ld16b .. | .ld16h .. | .ld16w .. | .st16b .. | .st16h .. | .st16w .. | .ld16wsp ..
  | .st16wsp .. => false

/-- The privileged instructions (47_system R490). -/
def isPrivileged : Instr → Bool
  | .rte32 .. | .stop32 .. | .wait32 .. | .doze32 .. | .mfcr32 .. | .mtcr32 .. | .psrclr32 .. | .psrset32 ..
  | .nie16 .. | .nir16 .. => true
  | .addu32 .. | .addc32 .. | .subu32 .. | .subc32 .. | .mvc32 .. | .ixh32 .. | .ixw32 .. | .incf32 .. | .inct32 ..
  | .decf32 .. | .dect32 .. | .and32 .. | .andn32 .. | .or32 .. | .xor32 .. | .nor32 .. | .bclri32 .. | .bseti32 ..
  | .btsti32 .. | .lsl32 .. | .lsr32 .. | .asr32 .. | .rotl32 .. | .lsli32 .. | .lsri32 .. | .asri32 ..
  | .rotli32 .. | .lslc32 .. | .lsrc32 .. | .asrc32 .. | .xsr32 .. | .bmaski32 .. | .xtrb0 .. | .xtrb1 ..
  | .xtrb2 .. | .xtrb3 .. | .ff0 .. | .ff1 .. | .mult32 .. | .addi32 .. | .subi32 .. | .andi32 .. | .andni32 ..
  | .xori32 .. | .ld32b .. | .ld32h .. | .ld32w .. | .ld32bs .. | .ld32hs .. | .st32b .. | .st32h .. | .st32w ..
  | .br32 .. | .bf32 .. | .bt32 .. | .movi32 .. | .movih32 .. | .lrw32 .. | .cmphsi32 .. | .cmplti32 ..
  | .cmpnei32 .. | .ori32 .. | .bsr32 .. | .ldm32 .. | .stm32 .. | .sync32 .. | .bmset32 .. | .bmclr32 ..
  | .trap32 .. | .bkpt16 .. | .lrw16 .. | .br16 .. | .bt16 .. | .bf16 .. | .addi16sp .. | .subi16sp ..
  | .ipush16 .. | .ipop16 .. | .pop16 .. | .push16 .. | .bpop16h .. | .bpop16w .. | .bpush16h .. | .bpush16w ..
  | .addi16rsp .. | .addi16i8 .. | .subi16i8 .. | .movi16 .. | .cmphsi16 .. | .cmplti16 .. | .cmpnei16 ..
  | .bclri16 .. | .bseti16 .. | .btsti16 .. | .jmpix16 .. | .lsli16 .. | .lsri16 .. | .asri16 .. | .addu16r3 ..
  | .subu16r3 .. | .addi16i3 .. | .subi16i3 .. | .addu16 .. | .addc16 .. | .subu16 .. | .subc16 .. | .cmphs16 ..
  | .cmplt16 .. | .cmpne16 .. | .mvcv16 .. | .and16 .. | .andn16 .. | .tst16 .. | .tstnbz16 .. | .or16 ..
  | .xor16 .. | .nor16 .. | .mov16 .. | .lsl16 .. | .lsr16 .. | .asr16 .. | .rotl16 .. | .zextb16 .. | .zexth16 ..
  | .sextb16 .. | .sexth16 .. | .jmp16 .. | .jsr16 .. | .revb16 .. | .revh16 .. | .mult16 .. | .ld16b ..
  | .ld16h .. | .ld16w .. | .st16b .. | .st16h .. | .st16w .. | .ld16wsp .. | .st16wsp .. => false

/-- The instructions that exist only with the binary code translation mechanism (92 D7). -/
def needsBctm : Instr → Bool
  | .bmset32 .. | .bmclr32 .. | .bpop16h .. | .bpop16w .. | .bpush16h .. | .bpush16w .. | .jmpix16 .. => true
  | .addu32 .. | .addc32 .. | .subu32 .. | .subc32 .. | .mvc32 .. | .ixh32 .. | .ixw32 .. | .incf32 .. | .inct32 ..
  | .decf32 .. | .dect32 .. | .and32 .. | .andn32 .. | .or32 .. | .xor32 .. | .nor32 .. | .bclri32 .. | .bseti32 ..
  | .btsti32 .. | .lsl32 .. | .lsr32 .. | .asr32 .. | .rotl32 .. | .lsli32 .. | .lsri32 .. | .asri32 ..
  | .rotli32 .. | .lslc32 .. | .lsrc32 .. | .asrc32 .. | .xsr32 .. | .bmaski32 .. | .xtrb0 .. | .xtrb1 ..
  | .xtrb2 .. | .xtrb3 .. | .ff0 .. | .ff1 .. | .mult32 .. | .addi32 .. | .subi32 .. | .andi32 .. | .andni32 ..
  | .xori32 .. | .ld32b .. | .ld32h .. | .ld32w .. | .ld32bs .. | .ld32hs .. | .st32b .. | .st32h .. | .st32w ..
  | .br32 .. | .bf32 .. | .bt32 .. | .movi32 .. | .movih32 .. | .lrw32 .. | .cmphsi32 .. | .cmplti32 ..
  | .cmpnei32 .. | .ori32 .. | .bsr32 .. | .ldm32 .. | .stm32 .. | .sync32 .. | .trap32 .. | .rte32 .. | .stop32 ..
  | .wait32 .. | .doze32 .. | .mfcr32 .. | .mtcr32 .. | .psrclr32 .. | .psrset32 .. | .bkpt16 .. | .lrw16 ..
  | .br16 .. | .bt16 .. | .bf16 .. | .addi16sp .. | .subi16sp .. | .nie16 .. | .nir16 .. | .ipush16 .. | .ipop16 ..
  | .pop16 .. | .push16 .. | .addi16rsp .. | .addi16i8 .. | .subi16i8 .. | .movi16 .. | .cmphsi16 .. | .cmplti16 ..
  | .cmpnei16 .. | .bclri16 .. | .bseti16 .. | .btsti16 .. | .lsli16 .. | .lsri16 .. | .asri16 .. | .addu16r3 ..
  | .subu16r3 .. | .addi16i3 .. | .subi16i3 .. | .addu16 .. | .addc16 .. | .subu16 .. | .subc16 .. | .cmphs16 ..
  | .cmplt16 .. | .cmpne16 .. | .mvcv16 .. | .and16 .. | .andn16 .. | .tst16 .. | .tstnbz16 .. | .or16 ..
  | .xor16 .. | .nor16 .. | .mov16 .. | .lsl16 .. | .lsr16 .. | .asr16 .. | .rotl16 .. | .zextb16 .. | .zexth16 ..
  | .sextb16 .. | .sexth16 .. | .jmp16 .. | .jsr16 .. | .revb16 .. | .revh16 .. | .mult16 .. | .ld16b ..
  | .ld16h .. | .ld16w .. | .st16b .. | .st16h .. | .st16w .. | .ld16wsp .. | .st16wsp .. => false

/-- The 5-bit fields of an instruction that name general registers one by one (30_encoding R141); the list of an LDM or
STM is not among them. -/
def registerFields : Instr → List (BitVec 5)
  | .addu32 rz rx ry => [rz, rx, ry]
  | .addc32 rz rx ry => [rz, rx, ry]
  | .subu32 rz rx ry => [rz, rx, ry]
  | .subc32 rz rx ry => [rz, rx, ry]
  | .mvc32 rz => [rz]
  | .ixh32 rz rx ry => [rz, rx, ry]
  | .ixw32 rz rx ry => [rz, rx, ry]
  | .incf32 rz rx _ => [rz, rx]
  | .inct32 rz rx _ => [rz, rx]
  | .decf32 rz rx _ => [rz, rx]
  | .dect32 rz rx _ => [rz, rx]
  | .and32 rz rx ry => [rz, rx, ry]
  | .andn32 rz rx ry => [rz, rx, ry]
  | .or32 rz rx ry => [rz, rx, ry]
  | .xor32 rz rx ry => [rz, rx, ry]
  | .nor32 rz rx ry => [rz, rx, ry]
  | .bclri32 rz rx _ => [rz, rx]
  | .bseti32 rz rx _ => [rz, rx]
  | .btsti32 rx _ => [rx]
  | .lsl32 rz rx ry => [rz, rx, ry]
  | .lsr32 rz rx ry => [rz, rx, ry]
  | .asr32 rz rx ry => [rz, rx, ry]
  | .rotl32 rz rx ry => [rz, rx, ry]
  | .lsli32 rz rx _ => [rz, rx]
  | .lsri32 rz rx _ => [rz, rx]
  | .asri32 rz rx _ => [rz, rx]
  | .rotli32 rz rx _ => [rz, rx]
  | .lslc32 rz rx _ => [rz, rx]
  | .lsrc32 rz rx _ => [rz, rx]
  | .asrc32 rz rx _ => [rz, rx]
  | .xsr32 rz rx _ => [rz, rx]
  | .bmaski32 rz _ => [rz]
  | .xtrb0 rz rx => [rz, rx]
  | .xtrb1 rz rx => [rz, rx]
  | .xtrb2 rz rx => [rz, rx]
  | .xtrb3 rz rx => [rz, rx]
  | .ff0 rz rx => [rz, rx]
  | .ff1 rz rx => [rz, rx]
  | .mult32 rz rx ry => [rz, rx, ry]
  | .addi32 rz rx _ => [rz, rx]
  | .subi32 rz rx _ => [rz, rx]
  | .andi32 rz rx _ => [rz, rx]
  | .andni32 rz rx _ => [rz, rx]
  | .xori32 rz rx _ => [rz, rx]
  | .ld32b rz rx _ => [rz, rx]
  | .ld32h rz rx _ => [rz, rx]
  | .ld32w rz rx _ => [rz, rx]
  | .ld32bs rz rx _ => [rz, rx]
  | .ld32hs rz rx _ => [rz, rx]
  | .st32b rz rx _ => [rz, rx]
  | .st32h rz rx _ => [rz, rx]
  | .st32w rz rx _ => [rz, rx]
  | .movi32 rz _ => [rz]
  | .movih32 rz _ => [rz]
  | .lrw32 rz _ => [rz]
  | .cmphsi32 rx _ => [rx]
  | .cmplti32 rx _ => [rx]
  | .cmpnei32 rx _ => [rx]
  | .ori32 rz rx _ => [rz, rx]
  | .ldm32 _ rx _ => [rx]
  | .stm32 _ rx _ => [rx]
  | .mfcr32 rz _ _ => [rz]
  | .mtcr32 rx _ _ => [rx]
  | .br32 .. | .bf32 .. | .bt32 .. | .bsr32 .. | .sync32 .. | .bmset32 .. | .bmclr32 .. | .trap32 .. | .rte32 ..
  | .stop32 .. | .wait32 .. | .doze32 .. | .psrclr32 .. | .psrset32 .. | .bkpt16 .. | .lrw16 .. | .br16 ..
  | .bt16 .. | .bf16 .. | .addi16sp .. | .subi16sp .. | .nie16 .. | .nir16 .. | .ipush16 .. | .ipop16 ..
  | .pop16 .. | .push16 .. | .bpop16h .. | .bpop16w .. | .bpush16h .. | .bpush16w .. | .addi16rsp .. | .addi16i8 ..
  | .subi16i8 .. | .movi16 .. | .cmphsi16 .. | .cmplti16 .. | .cmpnei16 .. | .bclri16 .. | .bseti16 ..
  | .btsti16 .. | .jmpix16 .. | .lsli16 .. | .lsri16 .. | .asri16 .. | .addu16r3 .. | .subu16r3 .. | .addi16i3 ..
  | .subi16i3 .. | .addu16 .. | .addc16 .. | .subu16 .. | .subc16 .. | .cmphs16 .. | .cmplt16 .. | .cmpne16 ..
  | .mvcv16 .. | .and16 .. | .andn16 .. | .tst16 .. | .tstnbz16 .. | .or16 .. | .xor16 .. | .nor16 .. | .mov16 ..
  | .lsl16 .. | .lsr16 .. | .asr16 .. | .rotl16 .. | .zextb16 .. | .zexth16 .. | .sextb16 .. | .sexth16 ..
  | .jmp16 .. | .jsr16 .. | .revb16 .. | .revh16 .. | .mult16 .. | .ld16b .. | .ld16h .. | .ld16w .. | .st16b ..
  | .st16h .. | .st16w .. | .ld16wsp .. | .st16wsp .. => []

/-- The one data access an instruction makes in the state `s`, if it is a load or store of one register: its kind, its
address before any alignment, its width (46_loadstore R430). -/
def singleAccess (s : State) : Instr → Option (AccessKind × Word × Width)
  | .ld32b _ rx imm12 => (s.slotOf rx).map fun x => (.read, s.reg x + scaled imm12 0, .byte)
  | .ld32h _ rx imm12 => (s.slotOf rx).map fun x => (.read, s.reg x + scaled imm12 1, .half)
  | .ld32w _ rx imm12 => (s.slotOf rx).map fun x => (.read, s.reg x + scaled imm12 2, .word)
  | .ld32bs _ rx imm12 => (s.slotOf rx).map fun x => (.read, s.reg x + scaled imm12 0, .byte)
  | .ld32hs _ rx imm12 => (s.slotOf rx).map fun x => (.read, s.reg x + scaled imm12 1, .half)
  | .st32b _ rx imm12 => (s.slotOf rx).map fun x => (.write, s.reg x + scaled imm12 0, .byte)
  | .st32h _ rx imm12 => (s.slotOf rx).map fun x => (.write, s.reg x + scaled imm12 1, .half)
  | .st32w _ rx imm12 => (s.slotOf rx).map fun x => (.write, s.reg x + scaled imm12 2, .word)
  | .ld16b _ rx imm5 => some (.read, s.reg3 rx + scaled imm5 0, .byte)
  | .ld16h _ rx imm5 => some (.read, s.reg3 rx + scaled imm5 1, .half)
  | .ld16w _ rx imm5 => some (.read, s.reg3 rx + scaled imm5 2, .word)
  | .st16b _ rx imm5 => some (.write, s.reg3 rx + scaled imm5 0, .byte)
  | .st16h _ rx imm5 => some (.write, s.reg3 rx + scaled imm5 1, .half)
  | .st16w _ rx imm5 => some (.write, s.reg3 rx + scaled imm5 2, .word)
  | .ld16wsp _ imm8 => some (.read, s.reg s.spSlot + scaled imm8 2, .word)
  | .st16wsp _ imm8 => some (.write, s.reg s.spSlot + scaled imm8 2, .word)
  | .lrw16 _ offset => some (.read, literalAddress s.pc offset, .word)
  | .lrw32 _ offset => some (.read, literalAddress s.pc offset, .word)
  | .bpush16h _ => if s.cfg.hasBctm ∧ (s.reg slotBsp).toNat + 2 ≤ (s.reg slotTop).toNat then
      some (.write, s.reg slotBsp, .half) else none
  | .bpush16w _ => if s.cfg.hasBctm ∧ (s.reg slotBsp).toNat + 4 ≤ (s.reg slotTop).toNat then
      some (.write, s.reg slotBsp, .word) else none
  | .bpop16h _ => if s.cfg.hasBctm ∧ (s.reg slotFp).toNat + 2 ≤ (s.reg slotBsp).toNat then
      some (.read, s.reg slotBsp - 2, .half) else none
  | .bpop16w _ => if s.cfg.hasBctm ∧ (s.reg slotFp).toNat + 4 ≤ (s.reg slotBsp).toNat then
      some (.read, s.reg slotBsp - 4, .word) else none
  | .addu32 .. | .addc32 .. | .subu32 .. | .subc32 .. | .mvc32 .. | .ixh32 .. | .ixw32 .. | .incf32 ..
  | .inct32 .. | .decf32 .. | .dect32 .. | .and32 .. | .andn32 .. | .or32 .. | .xor32 .. | .nor32 ..
  | .bclri32 .. | .bseti32 .. | .btsti32 .. | .lsl32 .. | .lsr32 .. | .asr32 .. | .rotl32 .. | .lsli32 ..
  | .lsri32 .. | .asri32 .. | .rotli32 .. | .lslc32 .. | .lsrc32 .. | .asrc32 .. | .xsr32 .. | .bmaski32 ..
  | .xtrb0 .. | .xtrb1 .. | .xtrb2 .. | .xtrb3 .. | .ff0 .. | .ff1 .. | .mult32 .. | .addi32 .. | .subi32 ..
  | .andi32 .. | .andni32 .. | .xori32 .. | .br32 .. | .bf32 .. | .bt32 .. | .movi32 .. | .movih32 ..
  | .cmphsi32 .. | .cmplti32 .. | .cmpnei32 .. | .ori32 .. | .bsr32 .. | .ldm32 .. | .stm32 .. | .sync32 ..
  | .bmset32 .. | .bmclr32 .. | .trap32 .. | .rte32 .. | .stop32 .. | .wait32 .. | .doze32 .. | .mfcr32 ..
  | .mtcr32 .. | .psrclr32 .. | .psrset32 .. | .bkpt16 .. | .br16 .. | .bt16 .. | .bf16 .. | .addi16sp ..
  | .subi16sp .. | .nie16 .. | .nir16 .. | .ipush16 .. | .ipop16 .. | .pop16 .. | .push16 .. | .addi16rsp ..
  | .addi16i8 .. | .subi16i8 .. | .movi16 .. | .cmphsi16 .. | .cmplti16 .. | .cmpnei16 .. | .bclri16 ..
  | .bseti16 .. | .btsti16 .. | .jmpix16 .. | .lsli16 .. | .lsri16 .. | .asri16 .. | .addu16r3 ..
  | .subu16r3 .. | .addi16i3 .. | .subi16i3 .. | .addu16 .. | .addc16 .. | .subu16 .. | .subc16 ..
  | .cmphs16 .. | .cmplt16 .. | .cmpne16 .. | .mvcv16 .. | .and16 .. | .andn16 .. | .tst16 .. | .tstnbz16 ..
  | .or16 .. | .xor16 .. | .nor16 .. | .mov16 .. | .lsl16 .. | .lsr16 .. | .asr16 .. | .rotl16 .. | .zextb16 ..
  | .zexth16 .. | .sextb16 .. | .sexth16 .. | .jmp16 .. | .jsr16 .. | .revb16 .. | .revh16 .. | .mult16 .. => none

/-- The base address of an instruction that makes several accesses in the state `s` (20_memory R92). A PUSH or POP with an
empty list makes none (46_loadstore R456, R457). -/
def multiBase (s : State) : Instr → Option Word
  | .ldm32 _ rx _ => (s.slotOf rx).map s.reg
  | .stm32 _ rx _ => (s.slotOf rx).map s.reg
  | .push16 r15 list1 => if pushPopList r15 list1 = [] then none else some (s.reg s.spSlot)
  | .pop16 r15 list1 => if pushPopList r15 list1 = [] then none else some (s.reg s.spSlot)
  | .ipush16 => some (s.reg s.spSlot)
  | .ipop16 => some (s.reg s.spSlot)
  | .nie16 => if s.psr.s then some (s.reg s.spSlot) else none
  | .nir16 => if s.psr.s then some (s.reg s.spSlot) else none
  | .addu32 .. | .addc32 .. | .subu32 .. | .subc32 .. | .mvc32 .. | .ixh32 .. | .ixw32 .. | .incf32 ..
  | .inct32 .. | .decf32 .. | .dect32 .. | .and32 .. | .andn32 .. | .or32 .. | .xor32 .. | .nor32 ..
  | .bclri32 .. | .bseti32 .. | .btsti32 .. | .lsl32 .. | .lsr32 .. | .asr32 .. | .rotl32 .. | .lsli32 ..
  | .lsri32 .. | .asri32 .. | .rotli32 .. | .lslc32 .. | .lsrc32 .. | .asrc32 .. | .xsr32 .. | .bmaski32 ..
  | .xtrb0 .. | .xtrb1 .. | .xtrb2 .. | .xtrb3 .. | .ff0 .. | .ff1 .. | .mult32 .. | .addi32 .. | .subi32 ..
  | .andi32 .. | .andni32 .. | .xori32 .. | .ld32b .. | .ld32h .. | .ld32w .. | .ld32bs .. | .ld32hs ..
  | .st32b .. | .st32h .. | .st32w .. | .br32 .. | .bf32 .. | .bt32 .. | .movi32 .. | .movih32 .. | .lrw32 ..
  | .cmphsi32 .. | .cmplti32 .. | .cmpnei32 .. | .ori32 .. | .bsr32 .. | .sync32 .. | .bmset32 .. | .bmclr32 ..
  | .trap32 .. | .rte32 .. | .stop32 .. | .wait32 .. | .doze32 .. | .mfcr32 .. | .mtcr32 .. | .psrclr32 ..
  | .psrset32 .. | .bkpt16 .. | .lrw16 .. | .br16 .. | .bt16 .. | .bf16 .. | .addi16sp .. | .subi16sp ..
  | .bpop16h .. | .bpop16w .. | .bpush16h .. | .bpush16w .. | .addi16rsp .. | .addi16i8 .. | .subi16i8 ..
  | .movi16 .. | .cmphsi16 .. | .cmplti16 .. | .cmpnei16 .. | .bclri16 .. | .bseti16 .. | .btsti16 ..
  | .jmpix16 .. | .lsli16 .. | .lsri16 .. | .asri16 .. | .addu16r3 .. | .subu16r3 .. | .addi16i3 ..
  | .subi16i3 .. | .addu16 .. | .addc16 .. | .subu16 .. | .subc16 .. | .cmphs16 .. | .cmplt16 .. | .cmpne16 ..
  | .mvcv16 .. | .and16 .. | .andn16 .. | .tst16 .. | .tstnbz16 .. | .or16 .. | .xor16 .. | .nor16 ..
  | .mov16 .. | .lsl16 .. | .lsr16 .. | .asr16 .. | .rotl16 .. | .zextb16 .. | .zexth16 .. | .sextb16 ..
  | .sexth16 .. | .jmp16 .. | .jsr16 .. | .revb16 .. | .revh16 .. | .mult16 .. | .ld16b .. | .ld16h ..
  | .ld16w .. | .st16b .. | .st16h .. | .st16w .. | .ld16wsp .. | .st16wsp .. => none

end Sys2Proof.Machine
end

