-- ==== Sys2Proof/Certificates/Slice0/Obligations.lean ====
section
/-! DEFINITION. The statements for the provers: what the numbered rules of the spec say of the instructions and of the
machine, in terms of `decode`, `exec` and `step`. -/

open Sys2Proof Sys2Proof.Machine

/-! ### Encoding and fetch -/

/-- Decoding the encoding of a well-formed instruction gives it back, whatever follows it (30_encoding R131 to R149). The order
of the two halfwords is the decision of the spec 92 D3, log 10. -/
def Obligations.DecodeEncode : Prop :=
  ∀ (i : Instr) (rest : List Half), i.WellFormed = true → decode (encode i ++ rest) = .instr i rest

/-- What decodes to an instruction is the encoding of that instruction, and the instruction is well formed: no bit of an
instruction is ignored (30_encoding R155, R156). That no bit is ignored, so that a nonzero bit where a figure draws 0 is no
instruction, is the decision of the spec 92 D13, log 23, not a rule of the source. -/
def Obligations.DecodedIsEncoded : Prop :=
  ∀ (hs rest : List Half) (i : Instr), decode hs = .instr i rest → i.WellFormed = true ∧ hs = encode i ++ rest

/-- Words written out from the encodings of the spec decode to the instructions they stand for, one for each family. -/
def Obligations.DecodedWords : Prop :=
  decode [0b1100010010000010#16, 0b0000000000100001#16] = .instr (.addu32 1 2 4) [] ∧
  decode [0b0110100001001000#16] = .instr (.and16 1 2) [] ∧
  decode [0b0100001000100001#16] = .instr (.lsli16 1 2 1) [] ∧
  decode [0b0011101001000101#16] = .instr (.cmpnei16 2 5) [] ∧
  decode [0b1110101000000001#16, 0b0001001000110100#16] = .instr (.movi32 1 0x1234) [] ∧
  decode [0b0000010000000010#16] = .instr (.br16 2) [] ∧
  decode [0b1000001001100001#16] = .instr (.ld16b 3 2 1) [] ∧
  decode [0b1100000000000000#16, 0b0100000000100000#16] = .instr .rte32 [] ∧
  decode [0#16] = .instr .bkpt16 []

/-- In normal mode, when neither reset, debug request nor interrupt comes first, a step runs the instruction that the code at
the PC decodes to, and then the environment moves on (60_exceptions R631, R632; that the code at the PC is the bytes of its
halfwords in fetch order is 92 D3, log 10). How the environment moves on, the second clause, is the model's choice, log 7: its
next inputs come from the schedule, and the last ones stay. -/
def Obligations.StepRunsDecoded : Prop :=
  (∀ (s : State) (i : Instr) (rest : List Half), Undisturbed s →
    decode [halfAt s s.pc, halfAt s (s.pc + 2)] = .instr i rest → CanFetch s i.length →
    step s = tickOutcome (exec i s)) ∧
  ∀ s : State, s.tick = { s with inputs := s.schedule.head?.getD s.inputs, schedule := s.schedule.tail }

/-! ### Invariants -/

/-- Every step keeps the invariant: an even PC, canonical memory, and what the registers of each configuration can hold. The
canonical form of memory is the model's, log 4; what absent regions and widths hold is 92 D6, D8, log 12. -/
def Obligations.StepKeepsInv : Prop := ∀ s t : State, s.Inv → step s = .next t → t.Inv

/-- The state after reset satisfies the invariant. It includes the canonical form of memory, log 4, and what absent regions and
widths hold, log 12. -/
def Obligations.ResetInv : Prop := State.reset.Inv

/-- No step changes the configuration (00_scope R8). -/
def Obligations.StepKeepsConfig : Prop := ∀ s t : State, step s = .next t → t.cfg = s.cfg

/-! ### Arithmetic and logic -/

/-- ADDU, SUBU, ADDI, SUBI, ADDI(SP), SUBI(SP), IXH, IXW and MULT: arithmetic modulo 2^32, C as before (40_addsub R201, R203 to
R205, R207, R208, R210, R211, 44 R367). -/
def Obligations.AddSubResults : Prop :=
  (∀ (s : State) (rz rx ry : BitVec 5) (z x y : Slot) (imm12 : BitVec 12),
    s.slotOf rz = some z → s.slotOf rx = some x → s.slotOf ry = some y →
    exec (.addu32 rz rx ry) s = .next ((s.setReg z (s.reg x + s.reg y)).advance 4) ∧
    exec (.subu32 rz rx ry) s = .next ((s.setReg z (s.reg x - s.reg y)).advance 4) ∧
    exec (.ixh32 rz rx ry) s = .next ((s.setReg z (s.reg x + 2 * s.reg y)).advance 4) ∧
    exec (.ixw32 rz rx ry) s = .next ((s.setReg z (s.reg x + 4 * s.reg y)).advance 4) ∧
    exec (.mult32 rz rx ry) s =
      .next ((s.setReg z (BitVec.ofNat 32 ((s.reg x).toNat * (s.reg y).toNat))).advance 4) ∧
    exec (.addi32 rz rx imm12) s = .next ((s.setReg z (s.reg x + BitVec.ofNat 32 (imm12.toNat + 1))).advance 4) ∧
    exec (.subi32 rz rx imm12) s = .next ((s.setReg z (s.reg x - BitVec.ofNat 32 (imm12.toNat + 1))).advance 4)) ∧
  (∀ (s : State) (rz rx : BitVec 4),
    exec (.addu16 rz rx) s = .next ((s.setReg (slot4 s.psr.s rz) (s.reg4 rz + s.reg4 rx)).advance 2) ∧
    exec (.subu16 rz rx) s = .next ((s.setReg (slot4 s.psr.s rz) (s.reg4 rz - s.reg4 rx)).advance 2) ∧
    exec (.mult16 rz rx) s = .next ((s.setReg (slot4 s.psr.s rz)
      (BitVec.ofNat 32 ((s.reg4 rz).toNat * (s.reg4 rx).toNat))).advance 2)) ∧
  (∀ (s : State) (rz rx ry imm3 : BitVec 3) (imm8 : BitVec 8) (imm7 : BitVec 7),
    exec (.addu16r3 rz rx ry) s = .next ((s.setReg (slot3 rz) (s.reg3 rx + s.reg3 ry)).advance 2) ∧
    exec (.subu16r3 rz rx ry) s = .next ((s.setReg (slot3 rz) (s.reg3 rx - s.reg3 ry)).advance 2) ∧
    exec (.addi16i3 rz rx imm3) s =
      .next ((s.setReg (slot3 rz) (s.reg3 rx + BitVec.ofNat 32 (imm3.toNat + 1))).advance 2) ∧
    exec (.subi16i3 rz rx imm3) s =
      .next ((s.setReg (slot3 rz) (s.reg3 rx - BitVec.ofNat 32 (imm3.toNat + 1))).advance 2) ∧
    exec (.addi16i8 rz imm8) s =
      .next ((s.setReg (slot3 rz) (s.reg3 rz + BitVec.ofNat 32 (imm8.toNat + 1))).advance 2) ∧
    exec (.subi16i8 rz imm8) s =
      .next ((s.setReg (slot3 rz) (s.reg3 rz - BitVec.ofNat 32 (imm8.toNat + 1))).advance 2) ∧
    exec (.addi16rsp rz imm8) s =
      .next ((s.setReg (slot3 rz) (s.reg s.spSlot + BitVec.ofNat 32 (4 * imm8.toNat))).advance 2) ∧
    exec (.addi16sp imm7) s =
      .next ((s.setReg s.spSlot (s.reg s.spSlot + BitVec.ofNat 32 (4 * imm7.toNat))).advance 2) ∧
    exec (.subi16sp imm7) s =
      .next ((s.setReg s.spSlot (s.reg s.spSlot - BitVec.ofNat 32 (4 * imm7.toNat))).advance 2))

/-- ADDC writes the low 32 bits of the sum with C, and bit 32 to C; SUBC writes the difference less the complement of C, and
to C that no borrow occurred (40_addsub R202, R206). -/
def Obligations.CarryResults : Prop :=
  (∀ (s : State) (rz rx ry : BitVec 5) (z x y : Slot),
    s.slotOf rz = some z → s.slotOf rx = some x → s.slotOf ry = some y →
    (let sum := (s.reg x).toNat + (s.reg y).toNat + (if s.psr.c then 1 else 0)
     exec (.addc32 rz rx ry) s =
       .next (((s.setReg z (BitVec.ofNat 32 sum)).setC (decide (2 ^ 32 ≤ sum))).advance 4)) ∧
    (let taken := (s.reg y).toNat + (if s.psr.c then 0 else 1)
     exec (.subc32 rz rx ry) s =
       .next (((s.setReg z (s.reg x - BitVec.ofNat 32 taken)).setC (decide (taken ≤ (s.reg x).toNat))).advance 4))) ∧
  (∀ (s : State) (rz rx : BitVec 4),
    (let sum := (s.reg4 rz).toNat + (s.reg4 rx).toNat + (if s.psr.c then 1 else 0)
     exec (.addc16 rz rx) s =
       .next (((s.setReg (slot4 s.psr.s rz) (BitVec.ofNat 32 sum)).setC (decide (2 ^ 32 ≤ sum))).advance 2)) ∧
    (let taken := (s.reg4 rx).toNat + (if s.psr.c then 0 else 1)
     exec (.subc16 rz rx) s =
       .next (((s.setReg (slot4 s.psr.s rz) (s.reg4 rz - BitVec.ofNat 32 taken)).setC
         (decide (taken ≤ (s.reg4 rz).toNat))).advance 2)))

/-- INCF, INCT, DECF and DECT add or subtract if C has the value they ask for, and else leave every register as it is
(40_addsub R212 to R215). -/
def Obligations.ConditionalResults : Prop :=
  ∀ (s : State) (rz rx imm5 : BitVec 5) (z x : Slot), s.slotOf rz = some z → s.slotOf rx = some x →
    (let up := (s.setReg z (s.reg x + BitVec.ofNat 32 imm5.toNat)).advance 4
     exec (.inct32 rz rx imm5) s = .next (if s.psr.c then up else s.advance 4) ∧
     exec (.incf32 rz rx imm5) s = .next (if s.psr.c then s.advance 4 else up)) ∧
    (let down := (s.setReg z (s.reg x - BitVec.ofNat 32 imm5.toNat)).advance 4
     exec (.dect32 rz rx imm5) s = .next (if s.psr.c then down else s.advance 4) ∧
     exec (.decf32 rz rx imm5) s = .next (if s.psr.c then s.advance 4 else down))

/-- The logical instructions; immediates are zero-extended, and ANDNI complements after that (41_logic R240 to R248). -/
def Obligations.LogicResults : Prop :=
  (∀ (s : State) (rz rx ry : BitVec 5) (z x y : Slot) (imm12 : BitVec 12) (imm16 : BitVec 16),
    s.slotOf rz = some z → s.slotOf rx = some x → s.slotOf ry = some y →
    exec (.and32 rz rx ry) s = .next ((s.setReg z (s.reg x &&& s.reg y)).advance 4) ∧
    exec (.andn32 rz rx ry) s = .next ((s.setReg z (s.reg x &&& ~~~s.reg y)).advance 4) ∧
    exec (.or32 rz rx ry) s = .next ((s.setReg z (s.reg x ||| s.reg y)).advance 4) ∧
    exec (.xor32 rz rx ry) s = .next ((s.setReg z (s.reg x ^^^ s.reg y)).advance 4) ∧
    exec (.nor32 rz rx ry) s = .next ((s.setReg z (~~~(s.reg x ||| s.reg y))).advance 4) ∧
    exec (.andi32 rz rx imm12) s = .next ((s.setReg z (s.reg x &&& imm12.zeroExtend 32)).advance 4) ∧
    exec (.andni32 rz rx imm12) s = .next ((s.setReg z (s.reg x &&& ~~~imm12.zeroExtend 32)).advance 4) ∧
    exec (.xori32 rz rx imm12) s = .next ((s.setReg z (s.reg x ^^^ imm12.zeroExtend 32)).advance 4) ∧
    exec (.ori32 rz rx imm16) s = .next ((s.setReg z (s.reg x ||| imm16.zeroExtend 32)).advance 4)) ∧
  (∀ (s : State) (rz rx : BitVec 4),
    exec (.and16 rz rx) s = .next ((s.setReg (slot4 s.psr.s rz) (s.reg4 rz &&& s.reg4 rx)).advance 2) ∧
    exec (.andn16 rz rx) s = .next ((s.setReg (slot4 s.psr.s rz) (s.reg4 rz &&& ~~~s.reg4 rx)).advance 2) ∧
    exec (.or16 rz rx) s = .next ((s.setReg (slot4 s.psr.s rz) (s.reg4 rz ||| s.reg4 rx)).advance 2) ∧
    exec (.xor16 rz rx) s = .next ((s.setReg (slot4 s.psr.s rz) (s.reg4 rz ^^^ s.reg4 rx)).advance 2) ∧
    exec (.nor16 rz rx) s = .next ((s.setReg (slot4 s.psr.s rz) (~~~(s.reg4 rz ||| s.reg4 rx))).advance 2))

/-- Shifts by a register take the low six bits as the amount: from 32 on LSL, LSR and ROTL give 0 and ASR the sign
(42_shift R270, R271, R274, R277, R280). -/
def Obligations.ShiftRegisterResults : Prop :=
  (∀ (s : State) (rz rx ry : BitVec 5) (z x y : Slot),
    s.slotOf rz = some z → s.slotOf rx = some x → s.slotOf ry = some y →
    let v := s.reg x
    let n := (s.reg y).toNat % 64
    exec (.lsl32 rz rx ry) s = .next ((s.setReg z (if n < 32 then v <<< n else 0)).advance 4) ∧
    exec (.lsr32 rz rx ry) s = .next ((s.setReg z (if n < 32 then v >>> n else 0)).advance 4) ∧
    exec (.asr32 rz rx ry) s = .next ((s.setReg z (v.sshiftRight n)).advance 4) ∧
    exec (.rotl32 rz rx ry) s = .next ((s.setReg z (if n < 32 then v.rotateLeft n else 0)).advance 4)) ∧
  (∀ (s : State) (rz rx : BitVec 4),
    let v := s.reg4 rz
    let n := (s.reg4 rx).toNat % 64
    exec (.lsl16 rz rx) s = .next ((s.setReg (slot4 s.psr.s rz) (if n < 32 then v <<< n else 0)).advance 2) ∧
    exec (.lsr16 rz rx) s = .next ((s.setReg (slot4 s.psr.s rz) (if n < 32 then v >>> n else 0)).advance 2) ∧
    exec (.asr16 rz rx) s = .next ((s.setReg (slot4 s.psr.s rz) (v.sshiftRight n)).advance 2) ∧
    exec (.rotl16 rz rx) s =
      .next ((s.setReg (slot4 s.psr.s rz) (if n < 32 then v.rotateLeft n else 0)).advance 2))

/-- Shifts by an immediate take the field as the amount, 0 to 31 (42_shift R272, R275, R278, R281). -/
def Obligations.ShiftImmediateResults : Prop :=
  (∀ (s : State) (rz rx imm5 : BitVec 5) (z x : Slot), s.slotOf rz = some z → s.slotOf rx = some x →
    exec (.lsli32 rz rx imm5) s = .next ((s.setReg z (s.reg x <<< imm5.toNat)).advance 4) ∧
    exec (.lsri32 rz rx imm5) s = .next ((s.setReg z (s.reg x >>> imm5.toNat)).advance 4) ∧
    exec (.asri32 rz rx imm5) s = .next ((s.setReg z ((s.reg x).sshiftRight imm5.toNat)).advance 4) ∧
    exec (.rotli32 rz rx imm5) s = .next ((s.setReg z ((s.reg x).rotateLeft imm5.toNat)).advance 4)) ∧
  (∀ (s : State) (rz rx : BitVec 3) (imm5 : BitVec 5),
    exec (.lsli16 rz rx imm5) s = .next ((s.setReg (slot3 rz) (s.reg3 rx <<< imm5.toNat)).advance 2) ∧
    exec (.lsri16 rz rx imm5) s = .next ((s.setReg (slot3 rz) (s.reg3 rx >>> imm5.toNat)).advance 2) ∧
    exec (.asri16 rz rx imm5) s = .next ((s.setReg (slot3 rz) ((s.reg3 rx).sshiftRight imm5.toNat)).advance 2))

/-- LSLC, LSRC and ASRC shift by 1 to 32 and put the last bit shifted out into C; XSR rotates the 33 bits of the register
and C to the right (42_shift R273, R276, R279, R282). -/
def Obligations.CarryShiftResults : Prop :=
  ∀ (s : State) (rz rx imm5 : BitVec 5) (z x : Slot), s.slotOf rz = some z → s.slotOf rx = some x →
    let v := s.reg x
    let n := imm5.toNat + 1
    exec (.lslc32 rz rx imm5) s = .next (((s.setReg z (v <<< n)).setC (v.getLsbD (32 - n))).advance 4) ∧
    exec (.lsrc32 rz rx imm5) s = .next (((s.setReg z (v >>> n)).setC (v.getLsbD (n - 1))).advance 4) ∧
    exec (.asrc32 rz rx imm5) s = .next (((s.setReg z (v.sshiftRight n)).setC (v.getLsbD (n - 1))).advance 4) ∧
    let r : BitVec 33 := (v ++ BitVec.ofBool s.psr.c : BitVec 33).rotateRight n
    exec (.xsr32 rz rx imm5) s = .next (((s.setReg z (r.extractLsb' 1 32)).setC (r.getLsbD 0)).advance 4)

/-- The comparisons and tests write C and no register: CMPHS unsigned, CMPLT signed, their immediates and that of CMPNEI as
the rules bias them (43_compare R311 to R318, 44 R352). -/
def Obligations.CompareResults : Prop :=
  (∀ (s : State) (rx ry : BitVec 4),
    exec (.cmpne16 rx ry) s = .next ((s.setC (decide (s.reg4 rx ≠ s.reg4 ry))).advance 2) ∧
    exec (.cmphs16 rx ry) s = .next ((s.setC (decide ((s.reg4 ry).toNat ≤ (s.reg4 rx).toNat))).advance 2) ∧
    exec (.cmplt16 rx ry) s = .next ((s.setC (decide ((s.reg4 rx).toInt < (s.reg4 ry).toInt))).advance 2) ∧
    exec (.tst16 rx ry) s = .next ((s.setC (decide (s.reg4 rx &&& s.reg4 ry ≠ 0))).advance 2) ∧
    exec (.tstnbz16 rx) s =
      .next ((s.setC (decide (∀ k : Fin 4, (s.reg4 rx).extractLsb' (8 * k.val) 8 ≠ 0))).advance 2)) ∧
  (∀ (s : State) (rx : BitVec 3) (imm5 : BitVec 5),
    exec (.cmpnei16 rx imm5) s = .next ((s.setC (decide ((s.reg3 rx).toNat ≠ imm5.toNat))).advance 2) ∧
    exec (.cmphsi16 rx imm5) s = .next ((s.setC (decide (imm5.toNat + 1 ≤ (s.reg3 rx).toNat))).advance 2) ∧
    exec (.cmplti16 rx imm5) s = .next ((s.setC (decide ((s.reg3 rx).toInt < imm5.toNat + 1))).advance 2) ∧
    exec (.btsti16 rx imm5) s = .next ((s.setC ((s.reg3 rx).getLsbD imm5.toNat)).advance 2)) ∧
  (∀ (s : State) (rx imm5 : BitVec 5) (imm16 : BitVec 16) (x : Slot), s.slotOf rx = some x →
    exec (.cmpnei32 rx imm16) s = .next ((s.setC (decide ((s.reg x).toNat ≠ imm16.toNat))).advance 4) ∧
    exec (.cmphsi32 rx imm16) s = .next ((s.setC (decide (imm16.toNat + 1 ≤ (s.reg x).toNat))).advance 4) ∧
    exec (.cmplti32 rx imm16) s = .next ((s.setC (decide ((s.reg x).toInt < imm16.toNat + 1))).advance 4) ∧
    exec (.btsti32 rx imm5) s = .next ((s.setC ((s.reg x).getLsbD imm5.toNat)).advance 4))

/-- Moves and single bits: MOV, MOVI, MOVIH, MVC, MVCV, BCLRI, BSETI, and BMASKI for the fields 16 to 31 (44 R341 to R353). -/
def Obligations.MoveBitResults : Prop :=
  (∀ (s : State) (rz rx imm5 : BitVec 5) (imm16 : BitVec 16) (z x : Slot),
    s.slotOf rz = some z → s.slotOf rx = some x →
    exec (.movi32 rz imm16) s = .next ((s.setReg z (imm16.zeroExtend 32)).advance 4) ∧
    exec (.movih32 rz imm16) s = .next ((s.setReg z (imm16 ++ 0#16)).advance 4) ∧
    exec (.mvc32 rz) s = .next ((s.setReg z (if s.psr.c then 1 else 0)).advance 4) ∧
    exec (.bclri32 rz rx imm5) s = .next ((s.setReg z (s.reg x &&& ~~~BitVec.twoPow 32 imm5.toNat)).advance 4) ∧
    exec (.bseti32 rz rx imm5) s = .next ((s.setReg z (s.reg x ||| BitVec.twoPow 32 imm5.toNat)).advance 4) ∧
    (16 ≤ imm5.toNat →
      exec (.bmaski32 rz imm5) s = .next ((s.setReg z (BitVec.ofNat 32 (2 ^ (imm5.toNat + 1) - 1))).advance 4))) ∧
  (∀ (s : State) (rz rx : BitVec 4),
    exec (.mov16 rz rx) s = .next ((s.setReg (slot4 s.psr.s rz) (s.reg4 rx)).advance 2) ∧
    exec (.mvcv16 rz) s = .next ((s.setReg (slot4 s.psr.s rz) (if s.psr.c then 0 else 1)).advance 2)) ∧
  (∀ (s : State) (rz : BitVec 3) (imm5 : BitVec 5) (imm8 : BitVec 8),
    exec (.movi16 rz imm8) s = .next ((s.setReg (slot3 rz) (imm8.zeroExtend 32)).advance 2) ∧
    exec (.bclri16 rz imm5) s =
      .next ((s.setReg (slot3 rz) (s.reg3 rz &&& ~~~BitVec.twoPow 32 imm5.toNat)).advance 2) ∧
    exec (.bseti16 rz imm5) s =
      .next ((s.setReg (slot3 rz) (s.reg3 rz ||| BitVec.twoPow 32 imm5.toNat)).advance 2))

/-- ZEXTB, ZEXTH, SEXTB, SEXTH, REVB and REVH; XTRB0 to XTRB3 number the bytes from the top and put into C that the byte is
not zero (44 R355 to R364). -/
def Obligations.ExtractResults : Prop :=
  (∀ (s : State) (rz rx : BitVec 4),
    let v := s.reg4 rx
    exec (.zextb16 rz rx) s = .next ((s.setReg (slot4 s.psr.s rz) (BitVec.ofNat 32 (v.toNat % 2 ^ 8))).advance 2) ∧
    exec (.zexth16 rz rx) s = .next ((s.setReg (slot4 s.psr.s rz) (BitVec.ofNat 32 (v.toNat % 2 ^ 16))).advance 2) ∧
    exec (.sextb16 rz rx) s = .next ((s.setReg (slot4 s.psr.s rz) ((v.truncate 8).signExtend 32)).advance 2) ∧
    exec (.sexth16 rz rx) s = .next ((s.setReg (slot4 s.psr.s rz) ((v.truncate 16).signExtend 32)).advance 2) ∧
    (∃ r : Word, (∀ k : Fin 4, r.extractLsb' (8 * k.val) 8 = v.extractLsb' (8 * (3 - k.val)) 8) ∧
      exec (.revb16 rz rx) s = .next ((s.setReg (slot4 s.psr.s rz) r).advance 2)) ∧
    ∃ r : Word, (∀ k : Fin 4, r.extractLsb' (8 * k.val) 8 = v.extractLsb' (8 * (k.val ^^^ 1)) 8) ∧
      exec (.revh16 rz rx) s = .next ((s.setReg (slot4 s.psr.s rz) r).advance 2)) ∧
  (∀ (s : State) (rz rx : BitVec 5) (z x : Slot), s.slotOf rz = some z → s.slotOf rx = some x →
    let byte (k : Nat) := (s.reg x).toNat / 2 ^ (8 * (3 - k)) % 2 ^ 8
    let after (k : Nat) := ((s.setReg z (BitVec.ofNat 32 (byte k))).setC (decide (byte k ≠ 0))).advance 4
    exec (.xtrb0 rz rx) s = .next (after 0) ∧ exec (.xtrb1 rz rx) s = .next (after 1) ∧
    exec (.xtrb2 rz rx) s = .next (after 2) ∧ exec (.xtrb3 rz rx) s = .next (after 3))

/-- FF0 gives the number of ones from bit 31 down before the first zero, FF1 the number of zeros before the first one; 32 if
there is none (44 R365, R366). -/
def Obligations.FindFirstResults : Prop :=
  ∀ (s : State) (rz rx : BitVec 5) (z x : Slot) (b : Bool), s.slotOf rz = some z → s.slotOf rx = some x →
    ∃ n : Nat, n ≤ 32 ∧ (∀ k < n, (s.reg x).getLsbD (31 - k) = b) ∧ (n < 32 → (s.reg x).getLsbD (31 - n) = !b) ∧
      exec (if b then .ff0 rz rx else .ff1 rz rx) s = .next ((s.setReg z (BitVec.ofNat 32 n)).advance 4)

/-! ### Control flow -/

/-- Branches: the offset field shifted left by one and sign-extended, added to the address of the branch (R400); BSR saves pc +
4 and JSR pc + 2 in R15; register targets lose bit 0; JMPIX goes to SVBR plus the low byte of RX times 16, 24, 32 or 40
(45_branch R402 to R409). That targets wrap modulo 2^32 is the decision of the spec 92 D4, log 11. -/
def Obligations.BranchResults : Prop :=
  (∀ (s : State) (d : BitVec 10) (e : BitVec 16) (f : BitVec 26),
    let jump (o : Word) := ({ s with pc := (s.pc + 2 * o) &&& 0xFFFFFFFE#32 } : State)
    exec (.br16 d) s = .next (jump (d.signExtend 32)) ∧
    exec (.br32 e) s = .next (jump (e.signExtend 32)) ∧
    exec (.bt16 d) s = .next (if s.psr.c then jump (d.signExtend 32) else s.advance 2) ∧
    exec (.bt32 e) s = .next (if s.psr.c then jump (e.signExtend 32) else s.advance 4) ∧
    exec (.bf16 d) s = .next (if s.psr.c then s.advance 2 else jump (d.signExtend 32)) ∧
    exec (.bf32 e) s = .next (if s.psr.c then s.advance 4 else jump (e.signExtend 32)) ∧
    exec (.bsr32 f) s = .next ((jump (f.signExtend 32)).setReg slotLr (s.pc + 4))) ∧
  (∀ (s : State) (rx : BitVec 4),
    exec (.jmp16 rx) s = .next { s with pc := s.reg4 rx &&& 0xFFFFFFFE#32 } ∧
    exec (.jsr16 rx) s = .next (({ s with pc := s.reg4 rx &&& 0xFFFFFFFE#32 } : State).setReg slotLr (s.pc + 2))) ∧
  (∀ (s : State) (rx : BitVec 3) (imm2 : BitVec 2), s.cfg.hasBctm = true →
    exec (.jmpix16 rx imm2) s = .next { s with
      pc := (s.reg slotSvbr + BitVec.ofNat 32 ((s.reg3 rx).toNat % 256 * (16 + 8 * imm2.toNat))) &&& 0xFFFFFFFE#32 })

/-! ### Loads and stores -/

/-- The 32-bit loads: a byte, a halfword or a word from the sum of a register and a scaled offset, zero-extended or, for LD.BS
and LD.HS, sign-extended (46_loadstore R430 to R436, 20_memory R82). That addresses wrap modulo 2^32 is the decision of the spec
92 D4, log 11. -/
def Obligations.LoadResults : Prop :=
  ∀ (s : State) (rz rx : BitVec 5) (imm12 : BitVec 12) (z x : Slot) (b : Word),
    s.slotOf rz = some z → s.slotOf rx = some x →
    (CanRead s (s.reg x + BitVec.ofNat 32 imm12.toNat) .byte b →
      exec (.ld32b rz rx imm12) s = .next ((s.setReg z (s.mem.load s.cfg.bigEndian b .byte)).advance 4) ∧
      exec (.ld32bs rz rx imm12) s =
        .next ((s.setReg z (((s.mem.load s.cfg.bigEndian b .byte).truncate 8).signExtend 32)).advance 4)) ∧
    (CanRead s (s.reg x + BitVec.ofNat 32 (2 * imm12.toNat)) .half b →
      exec (.ld32h rz rx imm12) s = .next ((s.setReg z (s.mem.load s.cfg.bigEndian b .half)).advance 4) ∧
      exec (.ld32hs rz rx imm12) s =
        .next ((s.setReg z (((s.mem.load s.cfg.bigEndian b .half).truncate 16).signExtend 32)).advance 4)) ∧
    (CanRead s (s.reg x + BitVec.ofNat 32 (4 * imm12.toNat)) .word b →
      exec (.ld32w rz rx imm12) s = .next ((s.setReg z (s.mem.load s.cfg.bigEndian b .word)).advance 4))

/-- The 16-bit loads, and the loads of a literal relative to the PC, whose address loses its two low bits (46_loadstore R432,
R434, R436, 44 R348). That addresses wrap modulo 2^32 is the decision of the spec 92 D4, log 11. -/
def Obligations.ShortLoadResults : Prop :=
  (∀ (s : State) (rz rx : BitVec 3) (imm5 : BitVec 5) (b : Word),
    (CanRead s (s.reg3 rx + BitVec.ofNat 32 imm5.toNat) .byte b →
      exec (.ld16b rz rx imm5) s = .next ((s.setReg (slot3 rz) (s.mem.load s.cfg.bigEndian b .byte)).advance 2)) ∧
    (CanRead s (s.reg3 rx + BitVec.ofNat 32 (2 * imm5.toNat)) .half b →
      exec (.ld16h rz rx imm5) s = .next ((s.setReg (slot3 rz) (s.mem.load s.cfg.bigEndian b .half)).advance 2)) ∧
    (CanRead s (s.reg3 rx + BitVec.ofNat 32 (4 * imm5.toNat)) .word b →
      exec (.ld16w rz rx imm5) s = .next ((s.setReg (slot3 rz) (s.mem.load s.cfg.bigEndian b .word)).advance 2))) ∧
  (∀ (s : State) (rz : BitVec 3) (imm8 : BitVec 8) (b : Word),
    (CanRead s (s.reg s.spSlot + BitVec.ofNat 32 (4 * imm8.toNat)) .word b →
      exec (.ld16wsp rz imm8) s = .next ((s.setReg (slot3 rz) (s.mem.load s.cfg.bigEndian b .word)).advance 2)) ∧
    (CanRead s ((s.pc + BitVec.ofNat 32 (4 * imm8.toNat)) &&& 0xFFFFFFFC#32) .word b →
      exec (.lrw16 rz imm8) s = .next ((s.setReg (slot3 rz) (s.mem.load s.cfg.bigEndian b .word)).advance 2))) ∧
  (∀ (s : State) (rz : BitVec 5) (imm16 : BitVec 16) (z : Slot) (b : Word), s.slotOf rz = some z →
    CanRead s ((s.pc + BitVec.ofNat 32 (4 * imm16.toNat)) &&& 0xFFFFFFFC#32) .word b →
    exec (.lrw32 rz imm16) s = .next ((s.setReg z (s.mem.load s.cfg.bigEndian b .word)).advance 4))

/-- The stores of one register: its low byte, its low halfword or the word, and nothing but memory and the PC changes
(46_loadstore R440 to R442). That addresses wrap modulo 2^32 is the decision of the spec 92 D4, log 11. -/
def Obligations.StoreResults : Prop :=
  (∀ (s : State) (rz rx : BitVec 5) (imm12 : BitVec 12) (z x : Slot) (b : Word),
    s.slotOf rz = some z → s.slotOf rx = some x →
    (CanWrite s (s.reg x + BitVec.ofNat 32 imm12.toNat) .byte b →
      exec (.st32b rz rx imm12) s = .next ((storeState s b .byte (s.reg z)).advance 4)) ∧
    (CanWrite s (s.reg x + BitVec.ofNat 32 (2 * imm12.toNat)) .half b →
      exec (.st32h rz rx imm12) s = .next ((storeState s b .half (s.reg z)).advance 4)) ∧
    (CanWrite s (s.reg x + BitVec.ofNat 32 (4 * imm12.toNat)) .word b →
      exec (.st32w rz rx imm12) s = .next ((storeState s b .word (s.reg z)).advance 4))) ∧
  (∀ (s : State) (rz rx : BitVec 3) (imm5 : BitVec 5) (imm8 : BitVec 8) (b : Word),
    (CanWrite s (s.reg3 rx + BitVec.ofNat 32 imm5.toNat) .byte b →
      exec (.st16b rz rx imm5) s = .next ((storeState s b .byte (s.reg3 rz)).advance 2)) ∧
    (CanWrite s (s.reg3 rx + BitVec.ofNat 32 (2 * imm5.toNat)) .half b →
      exec (.st16h rz rx imm5) s = .next ((storeState s b .half (s.reg3 rz)).advance 2)) ∧
    (CanWrite s (s.reg3 rx + BitVec.ofNat 32 (4 * imm5.toNat)) .word b →
      exec (.st16w rz rx imm5) s = .next ((storeState s b .word (s.reg3 rz)).advance 2)) ∧
    (CanWrite s (s.reg s.spSlot + BitVec.ofNat 32 (4 * imm8.toNat)) .word b →
      exec (.st16wsp rz imm8) s = .next ((storeState s b .word (s.reg3 rz)).advance 2)))

/-- LDM loads the registers RY to R(RY + IMM5) from ascending words and changes no other register; the base register, if in the
list, is not stated, because the spec leaves it open (46_loadstore R446, 92 D26). That addresses wrap modulo 2^32 is the
decision of the spec 92 D4, log 11. -/
def Obligations.LoadMultipleResult : Prop :=
  ∀ (s : State) (ry rx imm5 : BitVec 5) (x : Slot), s.slotOf rx = some x → ry.toNat + imm5.toNat ≤ 15 →
    (∀ k ≤ imm5.toNat, CanReadWord s (wordAt (s.reg x) k)) → Uninterrupted s →
    let r (k : Nat) : Slot := slot4 s.psr.s (BitVec.ofNat 4 (ry.toNat + k))
    ∃ t, exec (.ldm32 ry rx imm5) s = .next t ∧
      (∀ k ≤ imm5.toNat, r k ≠ x → t.reg (r k) = s.mem.load s.cfg.bigEndian (wordAt (s.reg x) k) .word) ∧
      (∀ q : Slot, (∀ k ≤ imm5.toNat, q ≠ r k) → t.reg q = s.reg q) ∧
      t = { s with gpr := t.gpr, freeCount := t.freeCount, pc := s.pc + 4 }

/-- STM stores the registers RY to R(RY + IMM5) to ascending words, and changes no register and no other byte (46_loadstore
R448). That addresses wrap modulo 2^32 is the decision of the spec 92 D4, log 11. -/
def Obligations.StoreMultipleResult : Prop :=
  ∀ (s : State) (ry rx imm5 : BitVec 5) (x : Slot), s.slotOf rx = some x → ry.toNat + imm5.toNat ≤ 15 →
    (∀ k ≤ imm5.toNat, CanWriteWord s (wordAt (s.reg x) k)) → Uninterrupted s → s.mem.wf = true →
    ∃ t, exec (.stm32 ry rx imm5) s = .next t ∧
      StoredWords s t (s.reg x)
        ((List.range (imm5.toNat + 1)).map fun k => s.reg (slot4 s.psr.s (BitVec.ofNat 4 (ry.toNat + k)))) ∧
      t = { s with mem := t.mem, written := t.written, pc := s.pc + 4 }

/-- PUSH stores R4 up to R(3 + LIST1), then R15 if asked for, below SP with the lowest register at the lowest address, and SP
ends there; IPUSH does so with R0 to R3, R12 and R13 (46_loadstore R455, R456, R458; the order of PUSH is log 34). That a PUSH
with an empty list completes whatever the alignment of SP is the model's choice, log 20. That addresses wrap modulo 2^32 is the
decision of the spec 92 D4, log 11. -/
def Obligations.PushResults : Prop :=
  ∀ (s : State) (i : Instr) (l : List Slot),
    ((∃ (r15 : BitVec 1) (list1 : BitVec 4), list1.toNat ≤ 8 ∧ i = .push16 r15 list1 ∧
        l = (List.finRange 21).filter fun r => 4 ≤ r.val ∧ r.val < 4 + list1.toNat ∨ r15 = 1 ∧ r = slotLr) ∨
      i = .ipush16 ∧ l = [0, 1, 2, 3, 12, 13]) →
    let sp := s.reg s.spSlot
    let top := sp - BitVec.ofNat 32 (4 * l.length)
    (∀ k < l.length, CanWriteWord s (wordAt top k)) → Uninterrupted s → s.mem.wf = true →
    ∃ t, exec i s = .next t ∧ StoredWords s t top (l.map s.reg) ∧ t.reg s.spSlot = top ∧
      KeepsOthers s t [s.spSlot] ∧ t = { s with gpr := t.gpr, mem := t.mem, written := t.written, pc := s.pc + 2 }

/-- POP loads what PUSH stores, moves SP above it and jumps to R15 without its bit 0, whether or not R15 was loaded; IPOP loads
what IPUSH stores and goes on with the next instruction (46_loadstore R455, R457, R459). That a POP with an empty list goes to
R15 whatever the alignment of SP is the model's choice, log 20. That addresses wrap modulo 2^32 is the decision of the spec 92
D4, log 11. -/
def Obligations.PopResults : Prop :=
  ∀ (s : State) (i : Instr) (l : List Slot),
    ((∃ (r15 : BitVec 1) (list1 : BitVec 4), list1.toNat ≤ 8 ∧ i = .pop16 r15 list1 ∧
        l = (List.finRange 21).filter fun r => 4 ≤ r.val ∧ r.val < 4 + list1.toNat ∨ r15 = 1 ∧ r = slotLr) ∨
      i = .ipop16 ∧ l = [0, 1, 2, 3, 12, 13]) →
    let sp := s.reg s.spSlot
    (∀ k < l.length, CanReadWord s (wordAt sp k)) → Uninterrupted s →
    ∃ t, exec i s = .next t ∧
      (∀ (k : Nat) (h : k < l.length), t.reg l[k] = s.mem.load s.cfg.bigEndian (wordAt sp k) .word) ∧
      t.reg s.spSlot = sp + BitVec.ofNat 32 (4 * l.length) ∧ KeepsOthers s t (s.spSlot :: l) ∧
      t = { s with gpr := t.gpr, pc := if i = .ipop16 then s.pc + 2 else t.reg slotLr &&& 0xFFFFFFFE#32 }

/-- The translation stack: BPUSH stores at BSP and raises BSP if the new BSP does not exceed TOP, BPOP lowers BSP and loads from
it if the new BSP is not below FP'; otherwise no access is made, R15 receives the next PC and control goes to SVBR - 12
(46_loadstore R470 to R475). That the limits are compared unsigned and without wrap, and that the target loses bit 0, is the
decision of the spec 92 D39, log 25. -/
def Obligations.TranslationStackResults : Prop :=
  ∀ (s : State) (rz : BitVec 3) (b : Word), s.cfg.hasBctm = true →
    let bsp := s.reg slotBsp
    let overflow : State := (s.setReg slotLr (s.pc + 2)).setPc (s.reg slotSvbr - 12)
    (if (s.reg slotTop).toNat < bsp.toNat + 2 then exec (.bpush16h rz) s = .next overflow
      else CanWrite s bsp .half b → exec (.bpush16h rz) s =
        .next (((storeState s b .half (s.reg3 rz)).setReg slotBsp (bsp + 2)).advance 2)) ∧
    (if (s.reg slotTop).toNat < bsp.toNat + 4 then exec (.bpush16w rz) s = .next overflow
      else CanWrite s bsp .word b → exec (.bpush16w rz) s =
        .next (((storeState s b .word (s.reg3 rz)).setReg slotBsp (bsp + 4)).advance 2)) ∧
    (if bsp.toNat < (s.reg slotFp).toNat + 2 then exec (.bpop16h rz) s = .next overflow
      else CanRead s (bsp - 2) .half b → exec (.bpop16h rz) s =
        .next (((s.setReg (slot3 rz) (s.mem.load s.cfg.bigEndian b .half)).setReg slotBsp (bsp - 2)).advance 2)) ∧
    (if bsp.toNat < (s.reg slotFp).toNat + 4 then exec (.bpop16w rz) s = .next overflow
      else CanRead s (bsp - 4) .word b → exec (.bpop16w rz) s =
        .next (((s.setReg (slot3 rz) (s.mem.load s.cfg.bigEndian b .word)).setReg slotBsp (bsp - 4)).advance 2))

/-- A single-register load or store at a misaligned address raises the misaligned access exception, vector 1, if PSR.MM is 0
(20_memory R90); an instruction of several accesses does so for a misaligned base whatever PSR.MM is (R92). With EE clear the
vector is 8, the unrecoverable error (60_exceptions R626), entered as any other, which is 92 D18, log 17. That a PUSH or POP
with an empty list makes no access, and so is not among them, is the model's choice, log 20. -/
def Obligations.MisalignedTraps : Prop :=
  (∀ (i : Instr) (s : State) (kind : AccessKind) (a : Word) (w : Width), singleAccess s i = some (kind, a, w) →
    (∀ f ∈ registerFields i, (s.slotOf f).isSome) → a.toNat % w.bytes ≠ 0 → s.psr.mm = false →
    Traps s 1 (exec i s)) ∧
  (∀ (i : Instr) (s : State) (a : Word), multiBase s i = some a →
    (∀ (ry rx imm5 : BitVec 5), i = .ldm32 ry rx imm5 ∨ i = .stm32 ry rx imm5 → ry.toNat + imm5.toNat ≤ 15) →
    a.toNat % 4 ≠ 0 → Traps s 1 (exec i s))

/-- With PSR.MM set a misaligned access goes to that address on a core with unaligned hardware, and else to the address with
its low bits cleared; an aligned access goes where it points (20_memory R90, R91). -/
def Obligations.AlignmentRule : Prop :=
  ∀ (s : State) (a : Word) (w : Width),
    (a.toNat % w.bytes = 0 → ∀ multi, effectiveAddress s multi a w = some a) ∧
    (a.toNat % w.bytes ≠ 0 → effectiveAddress s true a w = none ∧
      effectiveAddress s false a w =
        if s.psr.mm = false then none
        else if s.cfg.hwUnaligned then some a
        else some (BitVec.ofNat 32 (a.toNat / w.bytes * w.bytes)))

/-- A load or store that the MPU denies or the bus answers with an error raises the access error exception, vector 2, and
changes nothing else (20_memory R95, R96, R99, R114). For a misaligned read on a core with unaligned hardware an error at any
address of the aligned words that contain the access counts, because R93 has the bus asked for those words; that inference is
the model's, log 13 (DEDUCED). With EE clear the vector is 8, the unrecoverable error (60_exceptions R626), entered as any
other, which is 92 D18, log 17. -/
def Obligations.AccessErrorTraps : Prop :=
  ∀ (i : Instr) (s : State) (kind : AccessKind) (a b : Word) (w : Width), singleAccess s i = some (kind, a, w) →
    (∀ f ∈ registerFields i, (s.slotOf f).isSome) → effectiveAddress s false a w = some b →
    Denies s kind s.psr.s (byteAddresses b w.bytes)
      (if kind = .read then busReadAddresses b w else byteAddresses b w.bytes) →
    Traps s 2 (exec i s)

/-- A load of several words that stops part-way, by an access error on its word `n` or by an interrupt after `n` words with
PSR.IC set, has loaded the words before, and has updated no other register (no base, no SP), no memory and no PC: LDM (whose
base, if in its list, is not stated), POP and IPOP. NIR stopped by an access error on its first or on its second word leaves
what an exception at it leaves and nothing else, and no interrupt comes in its middle (46_loadstore R445 c, 60_exceptions R633;
what is left is the spec's decision 92 D29, D37, log 19 and 20). With EE clear the vector is 8, the unrecoverable error
(60_exceptions R626), entered as any other, which is 92 D18, log 17. That an interrupt in the middle with a vector below 32 is
refused is the decision of the spec 92 D19, log 18. That addresses wrap modulo 2^32 is the decision of the spec 92 D4, log 11.
-/
def Obligations.LoadsStopped : Prop :=
  (∀ (i : Instr) (s : State) (l : List Slot) (base : Word) (lost : Option Slot) (n : Nat),
    ((∃ (ry rx imm5 : BitVec 5) (x : Slot), i = .ldm32 ry rx imm5 ∧ s.slotOf rx = some x ∧
        ry.toNat + imm5.toNat ≤ 15 ∧ base = s.reg x ∧ lost = some x ∧
        l = (List.range (imm5.toNat + 1)).map fun k => slot4 s.psr.s (BitVec.ofNat 4 (ry.toNat + k))) ∨
      (∃ (r15 : BitVec 1) (list1 : BitVec 4), i = .pop16 r15 list1 ∧ base = s.reg s.spSlot ∧ lost = none ∧
        l = pushPopList r15 list1) ∨
      i = .ipop16 ∧ base = s.reg s.spSlot ∧ lost = none ∧ l = [0, 1, 2, 3, 12, 13]) →
    n < l.length → aligned base .word = true → (∀ k < n, CanReadWord s (wordAt base k)) →
    ∃ u, (∀ (k : Nat) (h : k < l.length), k < n → lost ≠ some l[k] →
        u.reg l[k] = s.mem.load s.cfg.bigEndian (wordAt base k) .word) ∧
      (∀ q ∉ l.take n, u.reg q = s.reg q) ∧ u = { s with gpr := u.gpr, freeCount := u.freeCount } ∧
      StopsAfter i s .read n (wordAt base n) u) ∧
  ∀ s : State, s.psr.s = true →
    let sp := s.reg slotSpvSp
    let fails (a : Word) : Prop := Denies s .read true (byteAddresses a 4) (byteAddresses a 4)
    aligned sp .word = true →
      (fails sp → Traps s 2 (exec .nir16 s)) ∧ (CanReadWord s sp → fails (sp + 4) → Traps s 2 (exec .nir16 s))

/-- A store of several words that stops part-way, by an access error or by an interrupt with PSR.IC set, has stored the words
before, and has updated no register (SP included), no other byte and no PC: STM has stored its first `n` registers, PUSH and
IPUSH their last `n`, from the last of the list down. NIE whose first store fails has done nothing, NIE whose second store fails
has stored EPC and set neither EE nor IE; no interrupt comes in its middle (46_loadstore R445 c, R456, 60_exceptions R633; what
is left is the spec's decision 92 D29, D37, log 19 and 20; the order of PUSH is 92 D38, log 34). With EE clear the vector is 8,
the unrecoverable error (60_exceptions R626), entered as any other, which is 92 D18, log 17. That an interrupt in the middle
with a vector below 32 is refused is the decision of the spec 92 D19, log 18. That addresses wrap modulo 2^32 is the decision of
the spec 92 D4, log 11. -/
def Obligations.StoresStopped : Prop :=
  (∀ (s : State) (ry rx imm5 : BitVec 5) (x : Slot) (n : Nat), s.slotOf rx = some x → ry.toNat + imm5.toNat ≤ 15 →
    n ≤ imm5.toNat → aligned (s.reg x) .word = true → s.mem.wf = true →
    (∀ k < n, CanWriteWord s (wordAt (s.reg x) k)) →
    ∃ u, StoredWords s u (s.reg x)
        ((List.range n).map fun k => s.reg (slot4 s.psr.s (BitVec.ofNat 4 (ry.toNat + k)))) ∧
      u = { s with mem := u.mem, written := u.written } ∧
      StopsAfter (.stm32 ry rx imm5) s .write n (wordAt (s.reg x) n) u) ∧
  (∀ (i : Instr) (s : State) (l : List Slot) (n : Nat),
    ((∃ (r15 : BitVec 1) (list1 : BitVec 4), i = .push16 r15 list1 ∧ l = pushPopList r15 list1) ∨
      i = .ipush16 ∧ l = [0, 1, 2, 3, 12, 13]) →
    let top := s.reg s.spSlot - BitVec.ofNat 32 (4 * l.length)
    n < l.length → aligned (s.reg s.spSlot) .word = true → s.mem.wf = true →
    (∀ k < l.length, l.length - n ≤ k → CanWriteWord s (wordAt top k)) →
    ∃ u, StoredWords s u (wordAt top (l.length - n)) ((l.drop (l.length - n)).map s.reg) ∧
      u = { s with mem := u.mem, written := u.written } ∧
      StopsAfter i s .write n (wordAt top (l.length - 1 - n)) u) ∧
  ∀ s : State, s.psr.s = true → s.mem.wf = true →
    let sp := s.reg slotSpvSp
    let fails (a : Word) : Prop := Denies s .write true (byteAddresses a 4) (byteAddresses a 4)
    aligned sp .word = true →
      (fails (sp - 4) → Traps s 2 (exec .nie16 s)) ∧
      (CanWriteWord s (sp - 4) → fails (sp - 8) →
        ∃ u, StoredWords s u (sp - 4) [s.epc] ∧ u = { s with mem := u.mem, written := u.written } ∧
          Traps u 2 (exec .nie16 s))

/-! ### Privileged and system instructions -/

/-- NIE stores EPC and EPSR below the supervisor SP and sets EE and IE; NIR loads them back, moves SP above them and returns
with them (47_system R497, R498). That NIR ignores bit 0 of EPC and the reserved bits of EPSR is the decision of the spec 92
D33, log 26. -/
def Obligations.NestingResults : Prop :=
  ∀ s : State, s.psr.s = true →
    let sp := s.reg slotSpvSp
    (CanWriteWord s (sp - 4) → CanWriteWord s (sp - 8) →
      exec .nie16 s = .next
        { storeState (storeState s (sp - 4) .word s.epc) (sp - 8) .word s.epsr with
          gpr := s.gpr.set slotSpvSp (sp - 8)
          psr := { s.psr with ee := true, ie := true }
          pc := s.pc + 2 }) ∧
    (CanReadWord s sp → CanReadWord s (sp + 4) →
      let savedPsr := s.mem.load s.cfg.bigEndian sp .word
      let savedPc := s.mem.load s.cfg.bigEndian (sp + 4) .word
      exec .nir16 s = .next { s with
        gpr := s.gpr.set slotSpvSp (sp + 8)
        epsr := savedPsr
        epc := savedPc
        psr := Psr.ofWord s.cfg.hasBctm savedPsr
        pc := savedPc &&& 0xFFFFFFFE#32 })

/-- MFCR reads each control register of the table: PSR as a word, VBR, EPSR, EPC, GCR, the implemented bits of the GSR pins,
CPUIDR, CCR, CAPR, the PACR of the region PRSR selects, PRSR, SRCR as 0, and the user stack pointer as CR<14,1> (10_state R31,
47_system R492; a PACR without its region, and the pins above GSR_WIDTH, read 0 by 92 D6, D8, log 12). -/
def Obligations.ReadControlRegister : Prop :=
  ∀ (s : State) (rz : BitVec 5) (z : Slot), s.psr.s = true → s.slotOf rz = some z →
    let reads (n sel : BitVec 5) (v : Word) : Prop := exec (.mfcr32 rz n sel) s = .next ((s.setReg z v).advance 4)
    reads 0 0 s.psr.toWord ∧ (s.cfg.hasVbr = true → reads 1 0 s.vbr) ∧ reads 2 0 s.epsr ∧ reads 4 0 s.epc ∧
    reads 11 0 s.gcr ∧ reads 12 0 (BitVec.ofNat 32 (s.inputs.gsr.toNat % 2 ^ s.cfg.gsrWidth.val)) ∧
    reads 13 0 s.cfg.cpuidr ∧
    reads 18 0 (BitVec.ofNat 32 ((if s.cfg.beV2 then 2 ^ 13 else 0) + 2 ^ 8 * s.cfg.sck.toNat +
      (if s.cfg.bigEndian then 2 ^ 7 else 0) + s.mp.toNat)) ∧
    reads 19 0 s.capr ∧
    reads 20 0 (if s.rid.toNat < s.cfg.mpuRegions.val then s.pacr[s.rid.toNat]'s.rid.isLt else 0) ∧
    reads 21 0 (BitVec.ofNat 32 s.rid.toNat) ∧ reads 31 0 0 ∧ reads 14 1 (s.reg slotUserSp)

/-- MTCR writes each control register: the implemented bits of PSR, VBR, EPSR, EPC, GCR, CCR.MP, CAPR, the selected PACR and
PRSR.RID, and the user stack pointer through CR<14,1>; GSR and CPUIDR stay as they are (47_system R493; what absent regions and
widths keep is log 12 and 27). The write of MP also notes whether it enables the MPU against 20_memory R115 (log 15). That
reserved bits ignore writes is the decision of the spec 92 D14, log 26. -/
def Obligations.WriteControlRegister : Prop :=
  ∀ (s : State) (rx : BitVec 5) (x : Slot), s.psr.s = true → s.slotOf rx = some x →
    let v := s.reg x
    let writes (n sel : BitVec 5) (t : State) : Prop := exec (.mtcr32 rx n sel) s = .next (t.advance 4)
    writes 0 0 { s with psr := Psr.ofWord s.cfg.hasBctm v } ∧
    (s.cfg.hasVbr = true → writes 1 0 { s with vbr := v &&& 0xFFFFFC00#32 }) ∧
    writes 2 0 { s with epsr := v } ∧ writes 4 0 { s with epc := v } ∧
    writes 11 0 { s with gcr := BitVec.ofNat 32 (v.toNat % 2 ^ s.cfg.gcrWidth.val) } ∧
    writes 12 0 s ∧ writes 13 0 s ∧
    (if s.cfg.mpuRegions = 0 then s.mp = 0 → writes 18 0 s
      else writes 18 0 { s with
        mp := v.truncate 2
        mpuUnsafe := s.mpuUnsafe || enablesMpuUnsafely { s with mp := v.truncate 2 } s.pc }) ∧
    writes 19 0 { s with capr := v &&& caprMask s.cfg.mpuRegions.val } ∧ caprMask 8 = 0xFFFFFFFF#32 ∧
    writes 20 0 (if s.rid.toNat < s.cfg.mpuRegions.val then
      { s with pacr := s.pacr.set s.rid.toNat (v &&& 0xFFFFFC3F#32) s.rid.isLt } else s) ∧
    writes 21 0 (if s.cfg.mpuRegions = 0 then s else { s with rid := v.truncate 3 }) ∧
    writes 14 1 (s.setReg slotUserSp v)

/-- CR<31,0> reads as 0 and a write of any value but the one that resets does nothing (10_state R61). -/
def Obligations.ResetRegisterRule : Prop :=
  ∀ (s : State) (r : BitVec 5) (q : Slot), s.psr.s = true → s.slotOf r = some q →
    exec (.mfcr32 r 31 0) s = .next ((s.setReg q 0).advance 4) ∧
    (s.reg q ≠ s.cfg.srcrMagic → exec (.mtcr32 r 31 0) s = .next (s.advance 4))

/-- PSR as a word: S at bit 31, VEC at 23:16, MM 9, EE 8, IC 7, IE 6, BM 2, C 0, every other bit 0; reading it back gives the
same PSR (10_state R33 to R43; the bit numbers are PRESUMED by log 9). -/
def Obligations.StatusWord : Prop :=
  ∀ (p : Psr) (hasBctm : Bool),
    (∀ k < 32, p.toWord.getLsbD k =
      if k = 31 then p.s else if 16 ≤ k ∧ k < 24 then p.vec.getLsbD (k - 16) else if k = 9 then p.mm
      else if k = 8 then p.ee else if k = 7 then p.ic else if k = 6 then p.ie else if k = 2 then p.bm
      else if k = 0 then p.c else false) ∧
    Psr.ofWord hasBctm p.toWord = { p with bm := hasBctm && p.bm }

/-- PSRSET and PSRCLR set and clear EE and IE by the bits 3 and 2 of their field and no other bit; BMSET and BMCLR write BM;
SYNC only goes on (47_system R494, R495, R511, R515, R516). That the bits 1 and 0 of the field, AF and FE, do nothing is the
decision of the spec 92 D15, log 26; that SYNC finds every earlier access complete, and so only goes on, is 92 D11, log 35. -/
def Obligations.StatusBitResults : Prop :=
  (∀ (s : State) (imm5 : BitVec 5), s.psr.s = true →
    exec (.psrset32 imm5) s = .next { s with
      psr := { s.psr with
        ee := if imm5.getLsbD 3 then true else s.psr.ee, ie := if imm5.getLsbD 2 then true else s.psr.ie }
      pc := s.pc + 4 } ∧
    exec (.psrclr32 imm5) s = .next { s with
      psr := { s.psr with
        ee := if imm5.getLsbD 3 then false else s.psr.ee, ie := if imm5.getLsbD 2 then false else s.psr.ie }
      pc := s.pc + 4 }) ∧
  (∀ s : State, s.cfg.hasBctm = true →
    exec .bmset32 s = .next { s with psr := { s.psr with bm := true }, pc := s.pc + 4 } ∧
    exec .bmclr32 s = .next { s with psr := { s.psr with bm := false }, pc := s.pc + 4 }) ∧
  ∀ s : State, exec .sync32 s = .next { s with pc := s.pc + 4 }

/-- RTE copies EPSR to PSR and EPC without its bit 0 to the PC, and changes nothing else (47_system R496). That it ignores bit 0
of EPC and the reserved bits of EPSR is the decision of the spec 92 D33, log 26. -/
def Obligations.ReturnResult : Prop :=
  ∀ s : State, s.psr.s = true →
    exec .rte32 s = .next { s with psr := Psr.ofWord s.cfg.hasBctm s.epsr, pc := s.epc &&& 0xFFFFFFFE#32 }

/-- WAIT, DOZE and STOP complete and put the core into their low-power mode (47_system R500 to R503). -/
def Obligations.LowPowerResults : Prop :=
  ∀ s : State, s.psr.s = true →
    exec .wait32 s = .next { s with pc := s.pc + 4, mode := .lowPower .wait } ∧
    exec .doze32 s = .next { s with pc := s.pc + 4, mode := .lowPower .doze } ∧
    exec .stop32 s = .next { s with pc := s.pc + 4, mode := .lowPower .stop }

/-! ### Exceptions -/

/-- Exception entry: if the vector word can be read the state is `afterEntry`, if not the machine is stuck (60_exceptions R610,
R612; that the vector read is checked as a supervisor fetch is 92 D16, log 14; the stuck machine is 92 D17, log 16). That a
vector word the program has stored is read as stored on a core with a cache too is the model's choice, log 28. -/
def Obligations.ExceptionEntry : Prop :=
  ∀ (s : State) (v : Byte) (saved : Word),
    (VectorReadable s v → takeVector v saved s = .next (afterEntry s v saved)) ∧
    (Denies s .fetch true (byteAddresses (s.vectorAddress v) 4) (byteAddresses (s.vectorAddress v) 4) →
      takeVector v saved s = .fault .vectorRead)

/-- TRAP n raises vector 16 + n and BKPT vector 7, both with EPC at the instruction; with the debug unit's FDB set BKPT enters
debug mode instead (47_system R510, R520, 60_exceptions R625, R627). That the PC stays at the BKPT when it enters debug mode is
the model's choice, log 30: the spec does not say whether it moves on. With EE clear the vector is 8, the unrecoverable error
(60_exceptions R626), entered as any other, which is 92 D18, log 17. -/
def Obligations.TrapResults : Prop :=
  ∀ s : State,
    (∀ n : BitVec 2, Traps s (16 + n.zeroExtend 8) (exec (.trap32 n) s)) ∧
    (s.cfg.hasDebug = false ∨ s.inputs.fdb = false → Traps s 7 (exec .bkpt16 s)) ∧
    (s.cfg.hasDebug = true → s.inputs.fdb = true → exec .bkpt16 s = .next { s with mode := .debug })

/-- In user mode every privileged instruction has no effect but the privilege violation exception, vector 5, with PSR and its
own address saved (47_system R490, R491, 60_exceptions R610). With EE clear the vector is 8, the unrecoverable error
(60_exceptions R626), entered as any other, which is 92 D18, log 17. -/
def Obligations.PrivilegeViolation : Prop :=
  ∀ (i : Instr) (s : State), isPrivileged i = true → s.psr.s = false → Traps s 5 (exec i s)

/-- Without the binary code translation mechanism its instructions are illegal (46_loadstore R470, the decision of the spec 92
D7, log 23). With EE clear the vector is 8, the unrecoverable error (60_exceptions R626), entered as any other, which is 92 D18,
log 17. -/
def Obligations.WithoutTranslation : Prop :=
  ∀ (i : Instr) (s : State), needsBctm i = true → s.cfg.hasBctm = false → Traps s 4 (exec i s)

/-- What the spec refuses to say ends in a refusal by name: a register field or list that names no register, a BMASKI field of 0
to 15, a control register that is not implemented; the boundary after the MPU was enabled against 20_memory R115; every access,
fetch and vector read checked while CCR.MP is 10 or 11, or while an enabled region is malformed; an interrupt with a vector
below 32 when it would be taken; on a core with a cache, a fetch of bytes that were stored to (93 U1 to U3, U6, U9 to U11, U17,
U20, 92 D12, D19 to D21, D28, D32, D36; where each refusal falls is log 15, 18, 22, 24, 27, 28). That on such a core a byte the
debug host has written counts as stored is the model's choice, log 28. -/
def Obligations.Refusals : Prop :=
  (∀ (i : Instr) (s : State) (f : BitVec 5), f ∈ registerFields i → s.slotOf f = none →
    (isPrivileged i = true → s.psr.s = true) → (∀ rz imm5, i = .bmaski32 rz imm5 → 16 ≤ imm5.toNat) →
    exec i s = .refused .noSuchRegister) ∧
  (∀ (s : State) (ry rx imm5 : BitVec 5), 15 < ry.toNat + imm5.toNat →
    exec (.ldm32 ry rx imm5) s = .refused .noSuchRegister ∧ exec (.stm32 ry rx imm5) s = .refused .noSuchRegister) ∧
  (∀ (s : State) (rz imm5 : BitVec 5), imm5.toNat < 16 → exec (.bmaski32 rz imm5) s = .refused .bmaskiFieldExcluded) ∧
  (∀ (s : State) (r n sel : BitVec 5) (q : Slot), s.psr.s = true → s.slotOf r = some q →
    crOf s.cfg.hasVbr n sel = none →
    exec (.mfcr32 r n sel) s = .refused .noSuchControlRegister ∧
    exec (.mtcr32 r n sel) s = .refused .noSuchControlRegister) ∧
  (∀ s : State, s.mode = .normal → s.resetPhase = .running → s.inputs.reset = false → s.mpuUnsafe = true →
    step s = .refused .mpuEnableUnsafe) ∧
  (∀ (s : State) (r : Refusal), MpuUndefined s r →
    (∀ (kind : AccessKind) (supervisor : Bool) (a : Word), mpuCheck s kind supervisor a = .refuse r) ∧
    (∀ (i : Instr) (kind : AccessKind) (a b : Word) (w : Width), singleAccess s i = some (kind, a, w) →
      (∀ f ∈ registerFields i, (s.slotOf f).isSome) → effectiveAddress s false a w = some b → exec i s = .refused r) ∧
    (∀ (i : Instr) (a : Word), multiBase s i = some a →
      (∀ (ry rx imm5 : BitVec 5), i = .ldm32 ry rx imm5 ∨ i = .stm32 ry rx imm5 → ry.toNat + imm5.toNat ≤ 15) →
      a.toNat % 4 = 0 → Uninterrupted s → exec i s = .refused r) ∧
    (∀ (v : Byte) (saved : Word), takeVector v saved s = .refused r) ∧
    (Undisturbed s → step s = .refused r)) ∧
  (∀ (s : State) (v : Byte), s.mode = .normal → s.resetPhase = .running → s.mpuUnsafe = false →
    s.inputs.reset = false → s.debugRequested = false → s.psr.ie = true → s.psr.ee = true → s.inputs.intReq = some v →
    v.toNat < 32 → step s = .refused .interruptVectorReserved) ∧
  (∀ s : State, Undisturbed s →
    let stored (bytes : List Word) : Prop := Permits s .fetch s.psr.s bytes bytes ∧ rewritten s bytes = true
    let word := byteAddresses s.pc 4
    (stored (word.take 2) → step s = .refused .cachedCodeRewritten) ∧
    (CanFetch s 2 → isLong (halfAt s s.pc) = true → stored (word.drop 2) → step s = .refused .cachedCodeRewritten))

/-- At a boundary, an encoding that is no instruction raises the illegal instruction exception, vector 4, and a fetch that is
denied, of the first halfword or of the second, raises the access error exception, vector 2, with EPC at the instruction
(30_encoding R155, R156, 20_memory R97, 60_exceptions R622, R623). That every encoding no page defines is illegal is the
decision of the spec 92 D13, log 23. With EE clear the vector is 8, the unrecoverable error (60_exceptions R626), entered as any
other, which is 92 D18, log 17. -/
def Obligations.FetchTraps : Prop :=
  ∀ (s : State) (v : Byte), Undisturbed s → VectorReadable s v →
    let trap := step s = .next (afterEntry s v s.pc).tick
    let word := byteAddresses s.pc 4
    (v = (if s.psr.ee then 4 else 8) →
      (∀ h, CanFetch s 2 → decode [halfAt s s.pc] = .illegal16 h → trap) ∧
      (∀ w, CanFetch s 4 → decode [halfAt s s.pc, halfAt s (s.pc + 2)] = .illegal32 w → trap)) ∧
    (v = (if s.psr.ee then 2 else 8) →
      (Denies s .fetch s.psr.s (word.take 2) (word.take 2) → trap) ∧
      (CanFetch s 2 → isLong (halfAt s s.pc) = true → Denies s .fetch s.psr.s (word.drop 2) (word.drop 2) → trap))

/-- At a boundary a visible interrupt with a vector from 32 on is taken, with EPC at the next instruction, if and only if IE and
EE are set; without both the instruction at the PC runs (60_exceptions R628, R632, 10_state R39). That a presented and enabled
interrupt is always taken before the next instruction is the model's choice, log 18: R632 says that it may be, and 92 D25 and
D40 leave the moment to the environment, which here presents it when it wants it taken. -/
def Obligations.InterruptResults : Prop :=
  ∀ s : State, s.mode = .normal → s.resetPhase = .running → s.mpuUnsafe = false → s.inputs.reset = false →
    s.debugRequested = false →
    (∀ v : Byte, s.psr.ie = true → s.psr.ee = true → s.inputs.intReq = some v → 32 ≤ v.toNat → VectorReadable s v →
      step s = .next (afterEntry s v s.pc).tick) ∧
    (s.psr.ie = false ∨ s.psr.ee = false → step s = tickOutcome (runInstr s))

/-! ### Low power, debug and reset -/

/-- In a low-power mode nothing changes until a debug request, which enters debug mode, or the raw interrupt request, after
which the step is that of normal mode (60_exceptions R641; the wake-up within the step is 92 D23, log 29). A debug request at a
boundary in normal mode enters debug mode before any interrupt or instruction (R634, R660). In debug mode every step is one
action of the debug host, so no instruction of the program runs and no interrupt is taken (R661): nothing, a write of a general
register, the PC, a control register or a byte of memory, or the command to leave, which returns to normal mode (R662); that the
host acts by these commands, one a step, is the model's choice, log 30. A software reset that the host triggers leaves debug
mode and the registers as they are, raises its flag signal, and resets the core when debug mode is left (10_state R62, 70_reset
R703; that the registers wait too is log 31). On a core with a cache a byte the host writes counts as stored, log 28. -/
def Obligations.ModeSteps : Prop :=
  ∀ s : State, s.inputs.reset = false →
    (∀ k : LowPower, s.mode = .lowPower k →
      (s.debugRequested = false → s.inputs.intRaw = false → step s = .next s.tick) ∧
      (s.debugRequested = true → step s = .next ({ s with mode := .debug } : State).tick) ∧
      (s.debugRequested = false → s.inputs.intRaw = true → s.resetPhase = .running →
        step s = step { s with mode := .normal })) ∧
    (s.mode = .normal → s.resetPhase = .running → s.mpuUnsafe = false → s.debugRequested = true →
      step s = .next ({ s with mode := .debug } : State).tick) ∧
    (s.mode = .debug →
      let host (c : DebugCmd) (t : State) : Prop := s.inputs.debugCmd = c → step s = .next t.tick
      host .idle s ∧
      (∀ (r : Slot) (v : Word), host (.writeReg r v) (s.setReg r v)) ∧
      (∀ v : Word, host (.writePc v) { s with pc := v &&& 0xFFFFFFFE#32 }) ∧
      (∀ (n sel : BitVec 5) (v : Word), s.inputs.debugCmd = .writeCr n sel v →
        (crOf s.cfg.hasVbr n sel = none → step s = .refused .noSuchControlRegister) ∧
        ∀ cr, crOf s.cfg.hasVbr n sel = some cr → (cr ≠ .srcr ∨ v ≠ s.cfg.srcrMagic) →
          step s = .next (writeCr s v cr).tick) ∧
      (∀ (a : Word) (b : Byte), s.mem.wf = true → s.inputs.debugCmd = .writeByte a b →
        ∃ m w, step s = .next ({ s with mem := m, written := w } : State).tick ∧
          m.read a = b ∧ ∀ c, c ≠ a → m.read c = s.mem.read c) ∧
      host (.writeCr 31 0 s.cfg.srcrMagic) { s with softResets := s.softResets + 1, resetPhase := .onDebugExit } ∧
      (s.resetPhase ≠ .onDebugExit → host .resume { s with mode := .normal }) ∧
      (s.resetPhase = .onDebugExit → (∀ a ∈ [0, 1, 2, 3], busError s .fetch a = false) → s.inputs.debugCmd = .resume →
        ∃ t, step s = .next t ∧ AfterReset s t))

/-- The state after power-on, and the step that completes it: the PC comes from the word at address 0 without its bit 0, and
nothing else changes (10_state R70, 70_reset R701, R702; that it takes a step is log 5). -/
def Obligations.PowerOnReset : Prop :=
  (State.reset.psr.toWord = 0x80000000#32 ∧ State.reset.vbr = 0 ∧ State.reset.mp = 0 ∧ State.reset.capr = 0 ∧
    (∀ i : Fin 8, (State.reset.pacr[i]).getLsbD 0 = false) ∧ State.reset.mode = .normal) ∧
  ∀ m : Memory, step { State.reset with mem := m } =
    .next { State.reset with
      mem := m, resetPhase := .running
      pc := m.load State.reset.cfg.bigEndian 0 .word &&& 0xFFFFFFFE#32 }

/-- Reset of a running machine, by the reset input or by software in normal mode: the registers the spec gives a value after
reset have it, the PC comes from the word at address 0, memory and configuration stay (10_state R60, R62, 70_reset R700 to
R703). What the spec leaves undetermined is not stated. That a reset of a running machine is one step is log 31. That a vector
word the program has stored is read as stored on a core with a cache too is the model's choice, log 28. -/
def Obligations.ResetResults : Prop :=
  ∀ s : State, (∀ a ∈ [0, 1, 2, 3], busError s .fetch a = false) →
    (s.inputs.reset = true → ∃ t, step s = .next t ∧ AfterReset s t) ∧
    (∀ (rx : BitVec 5) (x : Slot), s.psr.s = true → s.mode ≠ .debug → s.slotOf rx = some x →
      s.reg x = s.cfg.srcrMagic →
      ∃ t, exec (.mtcr32 rx 31 0) s = .next t ∧ AfterReset s t ∧ t.softResets = s.softResets + 1)

/-! ### Frames -/

/-- Whatever the instruction, a next state keeps every general register outside the instruction's destinations: also when the
instruction raises an exception. A software reset, which resets all, is excluded. -/
def Obligations.RegisterFrame : Prop :=
  ∀ (i : Instr) (s t : State) (r : Slot), exec i s = .next t → t.softResets = s.softResets →
    r ∉ destinations s i → t.reg r = s.reg r

/-- Whatever the instruction, a next state keeps every byte of memory outside those the instruction stores to, at the address
its meaning computes: the whole of memory for an instruction that stores nothing. -/
def Obligations.MemoryFrame : Prop :=
  ∀ (i : Instr) (s t : State) (a : Word), exec i s = .next t → s.mem.wf = true →
    a ∉ storeTargets s i → t.mem.read a = s.mem.read a

/-- Whatever the instruction, C changes only if it is one of those that write C; MM and IC only with RTE, NIR and MTCR; BM
only with those, BMSET and BMCLR; S, VEC, EE and IE only with RTE, NIR, MTCR, by exception entry, and EE and IE also with
PSRSET, PSRCLR and NIE (10_state R29 to R41). -/
def Obligations.StatusFrame : Prop :=
  ∀ (i : Instr) (s t : State), exec i s = .next t → t.softResets = s.softResets →
    let loads : Prop := i = .rte32 ∨ i = .nir16 ∨ ∃ x, i = .mtcr32 x 0 0
    let entry : Prop := t.epsr = s.psr.toWord ∧ t.epc = s.pc ∧ t.psr.s = true ∧ t.psr.ee = false ∧ t.psr.ie = false
    (t.psr.c = s.psr.c ∨ writesC i = true) ∧
    (t.psr.mm = s.psr.mm ∧ t.psr.ic = s.psr.ic ∨ loads) ∧
    (t.psr.bm = s.psr.bm ∨ loads ∨ i = .bmset32 ∨ i = .bmclr32) ∧
    (t.psr.s = s.psr.s ∧ t.psr.vec = s.psr.vec ∨ loads ∨ entry) ∧
    (t.psr.ee = s.psr.ee ∧ t.psr.ie = s.psr.ie ∨ loads ∨ entry ∨ i = .nie16 ∨
      ∃ m, i = .psrset32 m ∨ i = .psrclr32 m)

/-- Whatever the instruction, VBR, GCR, the MPU registers and PRSR change only with MTCR; EPSR and EPC only with MTCR, NIR and
exception entry; the environment and a pending reset never. A software reset is excluded. -/
def Obligations.ControlFrame : Prop :=
  ∀ (i : Instr) (s t : State), exec i s = .next t → t.softResets = s.softResets →
    ((∃ x n sel, i = .mtcr32 x n sel) ∨
      t.vbr = s.vbr ∧ t.gcr = s.gcr ∧ t.mp = s.mp ∧ t.capr = s.capr ∧ t.pacr = s.pacr ∧ t.rid = s.rid) ∧
    ((∃ x n sel, i = .mtcr32 x n sel) ∨ i = .nir16 ∨ t.epsr = s.epsr ∧ t.epc = s.epc ∨
      t.epsr = s.psr.toWord ∧ t.epc = s.pc) ∧
    t.inputs = s.inputs ∧ t.schedule = s.schedule ∧ t.resetPhase = s.resetPhase

/-! ### User mode -/

/-- An instruction in user mode either leaves user mode by exception entry, with PSR and its own address saved, or changes
nothing but general registers, C, BM, memory and the PC: no control register, and of the modes only debug by BKPT
(60_exceptions R645, R646). -/
def Obligations.UserModeConfined : Prop :=
  ∀ (i : Instr) (s t : State), s.psr.s = false → exec i s = .next t →
    (∃ v, t.epsr = s.psr.toWord ∧ t.epc = s.pc ∧
      t.psr = { s.psr with s := true, vec := v, ee := false, ie := false } ∧ t.mode = .normal) ∨
    t = { s with
      gpr := t.gpr, pc := t.pc, psr := { s.psr with c := t.psr.c, bm := t.psr.bm }, mem := t.mem
      written := t.written, freeCount := t.freeCount
      mode := if i = .bkpt16 then t.mode else s.mode }

/-- In user mode no instruction reads or writes the supervisor stack pointer: with another value there it does exactly the
same, and the value stays (10_state R22, 60_exceptions R646). -/
def Obligations.SupervisorStackSecret : Prop :=
  ∀ (i : Instr) (s : State) (v : Word), s.psr.s = false →
    exec i (s.setReg slotSpvSp v) = mapNext (fun t => t.setReg slotSpvSp v) (exec i s)

/-! ### Memory and the MPU -/

/-- What a store has written a load reads back, in either byte order, cut to the width; every other byte is as before, and the
canonical form is kept (20_memory R80 to R84). The canonical form is the model's, log 4; that an access past 0xFFFFFFFF goes on
at 0 is the decision of the spec 92 D4, log 11. -/
def Obligations.StoreThenLoad : Prop :=
  ∀ (m : Memory) (bigEndian : Bool) (a v : Word) (w : Width), m.wf = true →
    (m.store bigEndian a w v).load bigEndian a w = BitVec.ofNat 32 (v.toNat % 2 ^ (8 * w.bytes)) ∧
    (∀ b ∉ byteAddresses a w.bytes, (m.store bigEndian a w v).read b = m.read b) ∧
    (m.store bigEndian a w v).wf = true

/-- The byte orders: little endian has bits 7:0 at A and the higher bytes above it, big endian has the highest byte at A, for
words and halfwords, stored and loaded (20_memory R83, R84). -/
def Obligations.ByteOrders : Prop :=
  ∀ (m : Memory) (a v : Word), m.wf = true →
    (let word := m.store false a .word v
     let half := m.store false a .half v
     word.read a = v.extractLsb' 0 8 ∧ word.read (a + 1) = v.extractLsb' 8 8 ∧
     word.read (a + 2) = v.extractLsb' 16 8 ∧ word.read (a + 3) = v.extractLsb' 24 8 ∧
     half.read a = v.extractLsb' 0 8 ∧ half.read (a + 1) = v.extractLsb' 8 8) ∧
    (let word := m.store true a .word v
     let half := m.store true a .half v
     word.read a = v.extractLsb' 24 8 ∧ word.read (a + 1) = v.extractLsb' 16 8 ∧
     word.read (a + 2) = v.extractLsb' 8 8 ∧ word.read (a + 3) = v.extractLsb' 0 8 ∧
     half.read a = v.extractLsb' 8 8 ∧ half.read (a + 1) = v.extractLsb' 0 8) ∧
    m.load false a .word = m.read (a + 3) ++ m.read (a + 2) ++ m.read (a + 1) ++ m.read a ∧
    m.load false a .half = 0#16 ++ m.read (a + 1) ++ m.read a ∧
    m.load true a .word = m.read a ++ m.read (a + 1) ++ m.read (a + 2) ++ m.read (a + 3) ∧
    m.load true a .half = 0#16 ++ m.read a ++ m.read (a + 1)

/-- The MPU: without regions or with MP = 00 every access is permitted; with MP = 01 the enabled region of highest index that
covers the address decides by its AP bits and, for a fetch, its X bit, and an address in no region is denied (20_memory R111,
R113; the read right a fetch needs and the denial without a region are log 14). -/
def Obligations.ProtectionRule : Prop :=
  ∀ (s : State) (kind : AccessKind) (supervisor : Bool) (a : Word),
    (s.cfg.mpuRegions = 0 ∨ s.mp = 0 → mpuCheck s kind supervisor a = .permit) ∧
    (s.cfg.mpuRegions ≠ 0 → s.mp = 1 → (∀ i : Fin 8, regionMalformed s i = false) →
      let covers (i : Fin 8) : Prop := regionEnabled s i = true ∧ pacrCovers s.pacr[i] a = true
      ((∀ i, ¬ covers i) → mpuCheck s kind supervisor a = .deny) ∧
      ∀ i : Fin 8, covers i → (∀ j, i < j → ¬ covers j) →
        let ap := s.capr.toNat / 2 ^ (8 + 2 * i.val) % 4
        let mayRead := if supervisor then ap ≠ 0 else 2 ≤ ap
        let mayWrite := if supervisor then ap ≠ 0 else ap = 3
        mpuCheck s kind supervisor a =
          if kind = .write ∧ mayWrite ∨ kind = .read ∧ mayRead ∨
              kind = .fetch ∧ mayRead ∧ s.capr.getLsbD i.val = false then .permit else .deny)

/-- A well-formed PACR covers the 2^(Size+1) bytes from its base on, the base being its bits 31:10 (20_memory R112, 10_state
R52, R53). -/
def Obligations.RegionRange : Prop :=
  ∀ p a : Word, pacrWellFormed p = true →
    let base := p.toNat / 2 ^ 10 * 2 ^ 10
    let size := 2 ^ (p.toNat / 2 % 32 + 1)
    (pacrCovers p a = true ↔ base ≤ a.toNat ∧ a.toNat < base + size)
end

