-- ==== Sys2Proof/Laws/Decode.lean ====
section
/-! SUPPORT. What the encoder's layouts put into each field the decoder reads: one lemma per layout and field, so that a
proof about decoding an encoded instruction never unfolds a layout. -/

namespace Sys2Proof

theorem toNat_concat {n m : Nat} (x : BitVec n) (y : BitVec m) : (x ++ y).toNat = x.toNat * 2 ^ m + y.toNat := by
  rw [BitVec.toNat_append, ← Nat.shiftLeft_add_eq_or_of_lt y.isLt, Nat.shiftLeft_eq]

@[simp] theorem r32_op6 (op : BitVec 6) (a : BitVec 5) (b : BitVec 5) (sop : BitVec 6) (pc : BitVec 5) (z : BitVec 5) :
    op6 (r32 op a b sop pc z) = op := by
  apply BitVec.eq_of_toNat_eq; have := op.isLt; have := a.isLt; have := b.isLt; have := sop.isLt; have := pc.isLt; have := z.isLt
  simp only [op6, r32, BitVec.extractLsb'_toNat, toNat_concat, Nat.shiftRight_eq_div_pow]; omega

@[simp] theorem r32_f25 (op : BitVec 6) (a : BitVec 5) (b : BitVec 5) (sop : BitVec 6) (pc : BitVec 5) (z : BitVec 5) :
    f25 (r32 op a b sop pc z) = a := by
  apply BitVec.eq_of_toNat_eq; have := op.isLt; have := a.isLt; have := b.isLt; have := sop.isLt; have := pc.isLt; have := z.isLt
  simp only [f25, r32, BitVec.extractLsb'_toNat, toNat_concat, Nat.shiftRight_eq_div_pow]; omega

@[simp] theorem r32_f20 (op : BitVec 6) (a : BitVec 5) (b : BitVec 5) (sop : BitVec 6) (pc : BitVec 5) (z : BitVec 5) :
    f20 (r32 op a b sop pc z) = b := by
  apply BitVec.eq_of_toNat_eq; have := op.isLt; have := a.isLt; have := b.isLt; have := sop.isLt; have := pc.isLt; have := z.isLt
  simp only [f20, r32, BitVec.extractLsb'_toNat, toNat_concat, Nat.shiftRight_eq_div_pow]; omega

@[simp] theorem r32_sop6 (op : BitVec 6) (a : BitVec 5) (b : BitVec 5) (sop : BitVec 6) (pc : BitVec 5) (z : BitVec 5) :
    sop6 (r32 op a b sop pc z) = sop := by
  apply BitVec.eq_of_toNat_eq; have := op.isLt; have := a.isLt; have := b.isLt; have := sop.isLt; have := pc.isLt; have := z.isLt
  simp only [sop6, r32, BitVec.extractLsb'_toNat, toNat_concat, Nat.shiftRight_eq_div_pow]; omega

@[simp] theorem r32_pcode (op : BitVec 6) (a : BitVec 5) (b : BitVec 5) (sop : BitVec 6) (pc : BitVec 5) (z : BitVec 5) :
    pcode (r32 op a b sop pc z) = pc := by
  apply BitVec.eq_of_toNat_eq; have := op.isLt; have := a.isLt; have := b.isLt; have := sop.isLt; have := pc.isLt; have := z.isLt
  simp only [pcode, r32, BitVec.extractLsb'_toNat, toNat_concat, Nat.shiftRight_eq_div_pow]; omega

@[simp] theorem r32_f4 (op : BitVec 6) (a : BitVec 5) (b : BitVec 5) (sop : BitVec 6) (pc : BitVec 5) (z : BitVec 5) :
    f4 (r32 op a b sop pc z) = z := by
  apply BitVec.eq_of_toNat_eq; have := op.isLt; have := a.isLt; have := b.isLt; have := sop.isLt; have := pc.isLt; have := z.isLt
  simp only [f4, r32, BitVec.extractLsb'_toNat, toNat_concat, Nat.shiftRight_eq_div_pow]; omega

@[simp] theorem r32_sop4 (op : BitVec 6) (a : BitVec 5) (b : BitVec 5) (sop : BitVec 6) (pc : BitVec 5) (z : BitVec 5) :
    sop4 (r32 op a b sop pc z) = sop.extractLsb' 2 4 := by
  apply BitVec.eq_of_toNat_eq; have := op.isLt; have := a.isLt; have := b.isLt; have := sop.isLt; have := pc.isLt; have := z.isLt
  simp only [sop4, r32, BitVec.extractLsb'_toNat, toNat_concat, Nat.shiftRight_eq_div_pow]; omega

@[simp] theorem i12_op6 (op : BitVec 6) (a : BitVec 5) (b : BitVec 5) (sop : BitVec 4) (imm : BitVec 12) :
    op6 (i12 op a b sop imm) = op := by
  apply BitVec.eq_of_toNat_eq; have := op.isLt; have := a.isLt; have := b.isLt; have := sop.isLt; have := imm.isLt
  simp only [op6, i12, BitVec.extractLsb'_toNat, toNat_concat, Nat.shiftRight_eq_div_pow]; omega

@[simp] theorem i12_f25 (op : BitVec 6) (a : BitVec 5) (b : BitVec 5) (sop : BitVec 4) (imm : BitVec 12) :
    f25 (i12 op a b sop imm) = a := by
  apply BitVec.eq_of_toNat_eq; have := op.isLt; have := a.isLt; have := b.isLt; have := sop.isLt; have := imm.isLt
  simp only [f25, i12, BitVec.extractLsb'_toNat, toNat_concat, Nat.shiftRight_eq_div_pow]; omega

@[simp] theorem i12_f20 (op : BitVec 6) (a : BitVec 5) (b : BitVec 5) (sop : BitVec 4) (imm : BitVec 12) :
    f20 (i12 op a b sop imm) = b := by
  apply BitVec.eq_of_toNat_eq; have := op.isLt; have := a.isLt; have := b.isLt; have := sop.isLt; have := imm.isLt
  simp only [f20, i12, BitVec.extractLsb'_toNat, toNat_concat, Nat.shiftRight_eq_div_pow]; omega

@[simp] theorem i12_pcode (op : BitVec 6) (a : BitVec 5) (b : BitVec 5) (sop : BitVec 4) (imm : BitVec 12) :
    pcode (i12 op a b sop imm) = imm.extractLsb' 5 5 := by
  apply BitVec.eq_of_toNat_eq; have := op.isLt; have := a.isLt; have := b.isLt; have := sop.isLt; have := imm.isLt
  simp only [pcode, i12, BitVec.extractLsb'_toNat, toNat_concat, Nat.shiftRight_eq_div_pow]; omega

@[simp] theorem i12_f4 (op : BitVec 6) (a : BitVec 5) (b : BitVec 5) (sop : BitVec 4) (imm : BitVec 12) :
    f4 (i12 op a b sop imm) = imm.extractLsb' 0 5 := by
  apply BitVec.eq_of_toNat_eq; have := op.isLt; have := a.isLt; have := b.isLt; have := sop.isLt; have := imm.isLt
  simp only [f4, i12, BitVec.extractLsb'_toNat, toNat_concat, Nat.shiftRight_eq_div_pow]; omega

@[simp] theorem i12_sop4 (op : BitVec 6) (a : BitVec 5) (b : BitVec 5) (sop : BitVec 4) (imm : BitVec 12) :
    sop4 (i12 op a b sop imm) = sop := by
  apply BitVec.eq_of_toNat_eq; have := op.isLt; have := a.isLt; have := b.isLt; have := sop.isLt; have := imm.isLt
  simp only [sop4, i12, BitVec.extractLsb'_toNat, toNat_concat, Nat.shiftRight_eq_div_pow]; omega

@[simp] theorem i12_imm12 (op : BitVec 6) (a : BitVec 5) (b : BitVec 5) (sop : BitVec 4) (imm : BitVec 12) :
    imm12 (i12 op a b sop imm) = imm := by
  apply BitVec.eq_of_toNat_eq; have := op.isLt; have := a.isLt; have := b.isLt; have := sop.isLt; have := imm.isLt
  simp only [imm12, i12, BitVec.extractLsb'_toNat, toNat_concat, Nat.shiftRight_eq_div_pow]; omega

@[simp] theorem i16_op6 (op : BitVec 6) (a : BitVec 5) (b : BitVec 5) (imm : BitVec 16) :
    op6 (i16 op a b imm) = op := by
  apply BitVec.eq_of_toNat_eq; have := op.isLt; have := a.isLt; have := b.isLt; have := imm.isLt
  simp only [op6, i16, BitVec.extractLsb'_toNat, toNat_concat, Nat.shiftRight_eq_div_pow]; omega

@[simp] theorem i16_f25 (op : BitVec 6) (a : BitVec 5) (b : BitVec 5) (imm : BitVec 16) :
    f25 (i16 op a b imm) = a := by
  apply BitVec.eq_of_toNat_eq; have := op.isLt; have := a.isLt; have := b.isLt; have := imm.isLt
  simp only [f25, i16, BitVec.extractLsb'_toNat, toNat_concat, Nat.shiftRight_eq_div_pow]; omega

@[simp] theorem i16_f20 (op : BitVec 6) (a : BitVec 5) (b : BitVec 5) (imm : BitVec 16) :
    f20 (i16 op a b imm) = b := by
  apply BitVec.eq_of_toNat_eq; have := op.isLt; have := a.isLt; have := b.isLt; have := imm.isLt
  simp only [f20, i16, BitVec.extractLsb'_toNat, toNat_concat, Nat.shiftRight_eq_div_pow]; omega

@[simp] theorem i16_sop6 (op : BitVec 6) (a : BitVec 5) (b : BitVec 5) (imm : BitVec 16) :
    sop6 (i16 op a b imm) = imm.extractLsb' 10 6 := by
  apply BitVec.eq_of_toNat_eq; have := op.isLt; have := a.isLt; have := b.isLt; have := imm.isLt
  simp only [sop6, i16, BitVec.extractLsb'_toNat, toNat_concat, Nat.shiftRight_eq_div_pow]; omega

@[simp] theorem i16_pcode (op : BitVec 6) (a : BitVec 5) (b : BitVec 5) (imm : BitVec 16) :
    pcode (i16 op a b imm) = imm.extractLsb' 5 5 := by
  apply BitVec.eq_of_toNat_eq; have := op.isLt; have := a.isLt; have := b.isLt; have := imm.isLt
  simp only [pcode, i16, BitVec.extractLsb'_toNat, toNat_concat, Nat.shiftRight_eq_div_pow]; omega

@[simp] theorem i16_f4 (op : BitVec 6) (a : BitVec 5) (b : BitVec 5) (imm : BitVec 16) :
    f4 (i16 op a b imm) = imm.extractLsb' 0 5 := by
  apply BitVec.eq_of_toNat_eq; have := op.isLt; have := a.isLt; have := b.isLt; have := imm.isLt
  simp only [f4, i16, BitVec.extractLsb'_toNat, toNat_concat, Nat.shiftRight_eq_div_pow]; omega

@[simp] theorem i16_sop4 (op : BitVec 6) (a : BitVec 5) (b : BitVec 5) (imm : BitVec 16) :
    sop4 (i16 op a b imm) = imm.extractLsb' 12 4 := by
  apply BitVec.eq_of_toNat_eq; have := op.isLt; have := a.isLt; have := b.isLt; have := imm.isLt
  simp only [sop4, i16, BitVec.extractLsb'_toNat, toNat_concat, Nat.shiftRight_eq_div_pow]; omega

@[simp] theorem i16_imm12 (op : BitVec 6) (a : BitVec 5) (b : BitVec 5) (imm : BitVec 16) :
    imm12 (i16 op a b imm) = imm.extractLsb' 0 12 := by
  apply BitVec.eq_of_toNat_eq; have := op.isLt; have := a.isLt; have := b.isLt; have := imm.isLt
  simp only [imm12, i16, BitVec.extractLsb'_toNat, toNat_concat, Nat.shiftRight_eq_div_pow]; omega

@[simp] theorem i16_imm16 (op : BitVec 6) (a : BitVec 5) (b : BitVec 5) (imm : BitVec 16) :
    imm16 (i16 op a b imm) = imm := by
  apply BitVec.eq_of_toNat_eq; have := op.isLt; have := a.isLt; have := b.isLt; have := imm.isLt
  simp only [imm16, i16, BitVec.extractLsb'_toNat, toNat_concat, Nat.shiftRight_eq_div_pow]; omega

@[simp] theorem j26_op6 (op : BitVec 6) (off : BitVec 26) :
    op6 (j26 op off) = op := by
  apply BitVec.eq_of_toNat_eq; have := op.isLt; have := off.isLt
  simp only [op6, j26, BitVec.extractLsb'_toNat, toNat_concat, Nat.shiftRight_eq_div_pow]; omega

@[simp] theorem j26_f25 (op : BitVec 6) (off : BitVec 26) :
    f25 (j26 op off) = off.extractLsb' 21 5 := by
  apply BitVec.eq_of_toNat_eq; have := op.isLt; have := off.isLt
  simp only [f25, j26, BitVec.extractLsb'_toNat, toNat_concat, Nat.shiftRight_eq_div_pow]; omega

@[simp] theorem j26_f20 (op : BitVec 6) (off : BitVec 26) :
    f20 (j26 op off) = off.extractLsb' 16 5 := by
  apply BitVec.eq_of_toNat_eq; have := op.isLt; have := off.isLt
  simp only [f20, j26, BitVec.extractLsb'_toNat, toNat_concat, Nat.shiftRight_eq_div_pow]; omega

@[simp] theorem j26_sop6 (op : BitVec 6) (off : BitVec 26) :
    sop6 (j26 op off) = off.extractLsb' 10 6 := by
  apply BitVec.eq_of_toNat_eq; have := op.isLt; have := off.isLt
  simp only [sop6, j26, BitVec.extractLsb'_toNat, toNat_concat, Nat.shiftRight_eq_div_pow]; omega

@[simp] theorem j26_pcode (op : BitVec 6) (off : BitVec 26) :
    pcode (j26 op off) = off.extractLsb' 5 5 := by
  apply BitVec.eq_of_toNat_eq; have := op.isLt; have := off.isLt
  simp only [pcode, j26, BitVec.extractLsb'_toNat, toNat_concat, Nat.shiftRight_eq_div_pow]; omega

@[simp] theorem j26_f4 (op : BitVec 6) (off : BitVec 26) :
    f4 (j26 op off) = off.extractLsb' 0 5 := by
  apply BitVec.eq_of_toNat_eq; have := op.isLt; have := off.isLt
  simp only [f4, j26, BitVec.extractLsb'_toNat, toNat_concat, Nat.shiftRight_eq_div_pow]; omega

@[simp] theorem j26_sop4 (op : BitVec 6) (off : BitVec 26) :
    sop4 (j26 op off) = off.extractLsb' 12 4 := by
  apply BitVec.eq_of_toNat_eq; have := op.isLt; have := off.isLt
  simp only [sop4, j26, BitVec.extractLsb'_toNat, toNat_concat, Nat.shiftRight_eq_div_pow]; omega

@[simp] theorem j26_imm12 (op : BitVec 6) (off : BitVec 26) :
    imm12 (j26 op off) = off.extractLsb' 0 12 := by
  apply BitVec.eq_of_toNat_eq; have := op.isLt; have := off.isLt
  simp only [imm12, j26, BitVec.extractLsb'_toNat, toNat_concat, Nat.shiftRight_eq_div_pow]; omega

@[simp] theorem j26_imm16 (op : BitVec 6) (off : BitVec 26) :
    imm16 (j26 op off) = off.extractLsb' 0 16 := by
  apply BitVec.eq_of_toNat_eq; have := op.isLt; have := off.isLt
  simp only [imm16, j26, BitVec.extractLsb'_toNat, toNat_concat, Nat.shiftRight_eq_div_pow]; omega

@[simp] theorem j26_off26 (op : BitVec 6) (off : BitVec 26) :
    off26 (j26 op off) = off := by
  apply BitVec.eq_of_toNat_eq; have := op.isLt; have := off.isLt
  simp only [off26, j26, BitVec.extractLsb'_toNat, toNat_concat, Nat.shiftRight_eq_div_pow]; omega

@[simp] theorem j10_h11 (op : BitVec 5) (b : BitVec 1) (off : BitVec 10) :
    h11 (j10 op b off) = op := by
  apply BitVec.eq_of_toNat_eq; have := op.isLt; have := b.isLt; have := off.isLt
  simp only [h11, j10, BitVec.extractLsb'_toNat, toNat_concat, Nat.shiftRight_eq_div_pow]; omega

@[simp] theorem j10_h10 (op : BitVec 5) (b : BitVec 1) (off : BitVec 10) :
    h10 (j10 op b off) = b := by
  apply BitVec.eq_of_toNat_eq; have := op.isLt; have := b.isLt; have := off.isLt
  simp only [h10, j10, BitVec.extractLsb'_toNat, toNat_concat, Nat.shiftRight_eq_div_pow]; omega

@[simp] theorem j10_h98 (op : BitVec 5) (b : BitVec 1) (off : BitVec 10) :
    h98 (j10 op b off) = off.extractLsb' 8 2 := by
  apply BitVec.eq_of_toNat_eq; have := op.isLt; have := b.isLt; have := off.isLt
  simp only [h98, j10, BitVec.extractLsb'_toNat, toNat_concat, Nat.shiftRight_eq_div_pow]; omega

@[simp] theorem j10_h6 (op : BitVec 5) (b : BitVec 1) (off : BitVec 10) :
    h6 (j10 op b off) = off.extractLsb' 6 4 := by
  apply BitVec.eq_of_toNat_eq; have := op.isLt; have := b.isLt; have := off.isLt
  simp only [h6, j10, BitVec.extractLsb'_toNat, toNat_concat, Nat.shiftRight_eq_div_pow]; omega

@[simp] theorem j10_h5 (op : BitVec 5) (b : BitVec 1) (off : BitVec 10) :
    h5 (j10 op b off) = off.extractLsb' 5 3 := by
  apply BitVec.eq_of_toNat_eq; have := op.isLt; have := b.isLt; have := off.isLt
  simp only [h5, j10, BitVec.extractLsb'_toNat, toNat_concat, Nat.shiftRight_eq_div_pow]; omega

@[simp] theorem j10_h52 (op : BitVec 5) (b : BitVec 1) (off : BitVec 10) :
    h52 (j10 op b off) = off.extractLsb' 2 4 := by
  apply BitVec.eq_of_toNat_eq; have := op.isLt; have := b.isLt; have := off.isLt
  simp only [h52, j10, BitVec.extractLsb'_toNat, toNat_concat, Nat.shiftRight_eq_div_pow]; omega

@[simp] theorem j10_h42 (op : BitVec 5) (b : BitVec 1) (off : BitVec 10) :
    h42 (j10 op b off) = off.extractLsb' 2 3 := by
  apply BitVec.eq_of_toNat_eq; have := op.isLt; have := b.isLt; have := off.isLt
  simp only [h42, j10, BitVec.extractLsb'_toNat, toNat_concat, Nat.shiftRight_eq_div_pow]; omega

@[simp] theorem j10_h1 (op : BitVec 5) (b : BitVec 1) (off : BitVec 10) :
    h1 (j10 op b off) = off.extractLsb' 0 2 := by
  apply BitVec.eq_of_toNat_eq; have := op.isLt; have := b.isLt; have := off.isLt
  simp only [h1, j10, BitVec.extractLsb'_toNat, toNat_concat, Nat.shiftRight_eq_div_pow]; omega

@[simp] theorem j10_h4 (op : BitVec 5) (b : BitVec 1) (off : BitVec 10) :
    h4 (j10 op b off) = off.extractLsb' 0 5 := by
  apply BitVec.eq_of_toNat_eq; have := op.isLt; have := b.isLt; have := off.isLt
  simp only [h4, j10, BitVec.extractLsb'_toNat, toNat_concat, Nat.shiftRight_eq_div_pow]; omega

@[simp] theorem j10_h7 (op : BitVec 5) (b : BitVec 1) (off : BitVec 10) :
    h7 (j10 op b off) = off.extractLsb' 0 8 := by
  apply BitVec.eq_of_toNat_eq; have := op.isLt; have := b.isLt; have := off.isLt
  simp only [h7, j10, BitVec.extractLsb'_toNat, toNat_concat, Nat.shiftRight_eq_div_pow]; omega

@[simp] theorem j10_h9 (op : BitVec 5) (b : BitVec 1) (off : BitVec 10) :
    h9 (j10 op b off) = off := by
  apply BitVec.eq_of_toNat_eq; have := op.isLt; have := b.isLt; have := off.isLt
  simp only [h9, j10, BitVec.extractLsb'_toNat, toNat_concat, Nat.shiftRight_eq_div_pow]; omega

@[simp] theorem j10_hR15 (op : BitVec 5) (b : BitVec 1) (off : BitVec 10) :
    hR15 (j10 op b off) = off.extractLsb' 4 1 := by
  apply BitVec.eq_of_toNat_eq; have := op.isLt; have := b.isLt; have := off.isLt
  simp only [hR15, j10, BitVec.extractLsb'_toNat, toNat_concat, Nat.shiftRight_eq_div_pow]; omega

@[simp] theorem j10_hList1 (op : BitVec 5) (b : BitVec 1) (off : BitVec 10) :
    hList1 (j10 op b off) = off.extractLsb' 0 4 := by
  apply BitVec.eq_of_toNat_eq; have := op.isLt; have := b.isLt; have := off.isLt
  simp only [hList1, j10, BitVec.extractLsb'_toNat, toNat_concat, Nat.shiftRight_eq_div_pow]; omega

@[simp] theorem s16_h11 (op : BitVec 5) (b : BitVec 1) (x : BitVec 2) (s : BitVec 3) (y : BitVec 5) :
    h11 (s16 op b x s y) = op := by
  apply BitVec.eq_of_toNat_eq; have := op.isLt; have := b.isLt; have := x.isLt; have := s.isLt; have := y.isLt
  simp only [h11, s16, BitVec.extractLsb'_toNat, toNat_concat, Nat.shiftRight_eq_div_pow]; omega

@[simp] theorem s16_h10 (op : BitVec 5) (b : BitVec 1) (x : BitVec 2) (s : BitVec 3) (y : BitVec 5) :
    h10 (s16 op b x s y) = b := by
  apply BitVec.eq_of_toNat_eq; have := op.isLt; have := b.isLt; have := x.isLt; have := s.isLt; have := y.isLt
  simp only [h10, s16, BitVec.extractLsb'_toNat, toNat_concat, Nat.shiftRight_eq_div_pow]; omega

@[simp] theorem s16_h98 (op : BitVec 5) (b : BitVec 1) (x : BitVec 2) (s : BitVec 3) (y : BitVec 5) :
    h98 (s16 op b x s y) = x := by
  apply BitVec.eq_of_toNat_eq; have := op.isLt; have := b.isLt; have := x.isLt; have := s.isLt; have := y.isLt
  simp only [h98, s16, BitVec.extractLsb'_toNat, toNat_concat, Nat.shiftRight_eq_div_pow]; omega

@[simp] theorem s16_h5 (op : BitVec 5) (b : BitVec 1) (x : BitVec 2) (s : BitVec 3) (y : BitVec 5) :
    h5 (s16 op b x s y) = s := by
  apply BitVec.eq_of_toNat_eq; have := op.isLt; have := b.isLt; have := x.isLt; have := s.isLt; have := y.isLt
  simp only [h5, s16, BitVec.extractLsb'_toNat, toNat_concat, Nat.shiftRight_eq_div_pow]; omega

@[simp] theorem s16_h42 (op : BitVec 5) (b : BitVec 1) (x : BitVec 2) (s : BitVec 3) (y : BitVec 5) :
    h42 (s16 op b x s y) = y.extractLsb' 2 3 := by
  apply BitVec.eq_of_toNat_eq; have := op.isLt; have := b.isLt; have := x.isLt; have := s.isLt; have := y.isLt
  simp only [h42, s16, BitVec.extractLsb'_toNat, toNat_concat, Nat.shiftRight_eq_div_pow]; omega

@[simp] theorem s16_h1 (op : BitVec 5) (b : BitVec 1) (x : BitVec 2) (s : BitVec 3) (y : BitVec 5) :
    h1 (s16 op b x s y) = y.extractLsb' 0 2 := by
  apply BitVec.eq_of_toNat_eq; have := op.isLt; have := b.isLt; have := x.isLt; have := s.isLt; have := y.isLt
  simp only [h1, s16, BitVec.extractLsb'_toNat, toNat_concat, Nat.shiftRight_eq_div_pow]; omega

@[simp] theorem s16_h4 (op : BitVec 5) (b : BitVec 1) (x : BitVec 2) (s : BitVec 3) (y : BitVec 5) :
    h4 (s16 op b x s y) = y := by
  apply BitVec.eq_of_toNat_eq; have := op.isLt; have := b.isLt; have := x.isLt; have := s.isLt; have := y.isLt
  simp only [h4, s16, BitVec.extractLsb'_toNat, toNat_concat, Nat.shiftRight_eq_div_pow]; omega

@[simp] theorem s16_hR15 (op : BitVec 5) (b : BitVec 1) (x : BitVec 2) (s : BitVec 3) (y : BitVec 5) :
    hR15 (s16 op b x s y) = y.extractLsb' 4 1 := by
  apply BitVec.eq_of_toNat_eq; have := op.isLt; have := b.isLt; have := x.isLt; have := s.isLt; have := y.isLt
  simp only [hR15, s16, BitVec.extractLsb'_toNat, toNat_concat, Nat.shiftRight_eq_div_pow]; omega

@[simp] theorem s16_hList1 (op : BitVec 5) (b : BitVec 1) (x : BitVec 2) (s : BitVec 3) (y : BitVec 5) :
    hList1 (s16 op b x s y) = y.extractLsb' 0 4 := by
  apply BitVec.eq_of_toNat_eq; have := op.isLt; have := b.isLt; have := x.isLt; have := s.isLt; have := y.isLt
  simp only [hList1, s16, BitVec.extractLsb'_toNat, toNat_concat, Nat.shiftRight_eq_div_pow]; omega

@[simp] theorem i8_h11 (op : BitVec 5) (z : BitVec 3) (imm : BitVec 8) :
    h11 (i8 op z imm) = op := by
  apply BitVec.eq_of_toNat_eq; have := op.isLt; have := z.isLt; have := imm.isLt
  simp only [h11, i8, BitVec.extractLsb'_toNat, toNat_concat, Nat.shiftRight_eq_div_pow]; omega

@[simp] theorem i8_h10 (op : BitVec 5) (z : BitVec 3) (imm : BitVec 8) :
    h10 (i8 op z imm) = z.extractLsb' 2 1 := by
  apply BitVec.eq_of_toNat_eq; have := op.isLt; have := z.isLt; have := imm.isLt
  simp only [h10, i8, BitVec.extractLsb'_toNat, toNat_concat, Nat.shiftRight_eq_div_pow]; omega

@[simp] theorem i8_h8 (op : BitVec 5) (z : BitVec 3) (imm : BitVec 8) :
    h8 (i8 op z imm) = z := by
  apply BitVec.eq_of_toNat_eq; have := op.isLt; have := z.isLt; have := imm.isLt
  simp only [h8, i8, BitVec.extractLsb'_toNat, toNat_concat, Nat.shiftRight_eq_div_pow]; omega

@[simp] theorem i8_h98 (op : BitVec 5) (z : BitVec 3) (imm : BitVec 8) :
    h98 (i8 op z imm) = z.extractLsb' 0 2 := by
  apply BitVec.eq_of_toNat_eq; have := op.isLt; have := z.isLt; have := imm.isLt
  simp only [h98, i8, BitVec.extractLsb'_toNat, toNat_concat, Nat.shiftRight_eq_div_pow]; omega

@[simp] theorem i8_h5 (op : BitVec 5) (z : BitVec 3) (imm : BitVec 8) :
    h5 (i8 op z imm) = imm.extractLsb' 5 3 := by
  apply BitVec.eq_of_toNat_eq; have := op.isLt; have := z.isLt; have := imm.isLt
  simp only [h5, i8, BitVec.extractLsb'_toNat, toNat_concat, Nat.shiftRight_eq_div_pow]; omega

@[simp] theorem i8_h52 (op : BitVec 5) (z : BitVec 3) (imm : BitVec 8) :
    h52 (i8 op z imm) = imm.extractLsb' 2 4 := by
  apply BitVec.eq_of_toNat_eq; have := op.isLt; have := z.isLt; have := imm.isLt
  simp only [h52, i8, BitVec.extractLsb'_toNat, toNat_concat, Nat.shiftRight_eq_div_pow]; omega

@[simp] theorem i8_h42 (op : BitVec 5) (z : BitVec 3) (imm : BitVec 8) :
    h42 (i8 op z imm) = imm.extractLsb' 2 3 := by
  apply BitVec.eq_of_toNat_eq; have := op.isLt; have := z.isLt; have := imm.isLt
  simp only [h42, i8, BitVec.extractLsb'_toNat, toNat_concat, Nat.shiftRight_eq_div_pow]; omega

@[simp] theorem i8_h1 (op : BitVec 5) (z : BitVec 3) (imm : BitVec 8) :
    h1 (i8 op z imm) = imm.extractLsb' 0 2 := by
  apply BitVec.eq_of_toNat_eq; have := op.isLt; have := z.isLt; have := imm.isLt
  simp only [h1, i8, BitVec.extractLsb'_toNat, toNat_concat, Nat.shiftRight_eq_div_pow]; omega

@[simp] theorem i8_h4 (op : BitVec 5) (z : BitVec 3) (imm : BitVec 8) :
    h4 (i8 op z imm) = imm.extractLsb' 0 5 := by
  apply BitVec.eq_of_toNat_eq; have := op.isLt; have := z.isLt; have := imm.isLt
  simp only [h4, i8, BitVec.extractLsb'_toNat, toNat_concat, Nat.shiftRight_eq_div_pow]; omega

@[simp] theorem i8_h7 (op : BitVec 5) (z : BitVec 3) (imm : BitVec 8) :
    h7 (i8 op z imm) = imm := by
  apply BitVec.eq_of_toNat_eq; have := op.isLt; have := z.isLt; have := imm.isLt
  simp only [h7, i8, BitVec.extractLsb'_toNat, toNat_concat, Nat.shiftRight_eq_div_pow]; omega

@[simp] theorem i8_hR15 (op : BitVec 5) (z : BitVec 3) (imm : BitVec 8) :
    hR15 (i8 op z imm) = imm.extractLsb' 4 1 := by
  apply BitVec.eq_of_toNat_eq; have := op.isLt; have := z.isLt; have := imm.isLt
  simp only [hR15, i8, BitVec.extractLsb'_toNat, toNat_concat, Nat.shiftRight_eq_div_pow]; omega

@[simp] theorem i8_hList1 (op : BitVec 5) (z : BitVec 3) (imm : BitVec 8) :
    hList1 (i8 op z imm) = imm.extractLsb' 0 4 := by
  apply BitVec.eq_of_toNat_eq; have := op.isLt; have := z.isLt; have := imm.isLt
  simp only [hList1, i8, BitVec.extractLsb'_toNat, toNat_concat, Nat.shiftRight_eq_div_pow]; omega

@[simp] theorem i5_h11 (op : BitVec 5) (a : BitVec 3) (b : BitVec 3) (imm : BitVec 5) :
    h11 (i5 op a b imm) = op := by
  apply BitVec.eq_of_toNat_eq; have := op.isLt; have := a.isLt; have := b.isLt; have := imm.isLt
  simp only [h11, i5, BitVec.extractLsb'_toNat, toNat_concat, Nat.shiftRight_eq_div_pow]; omega

@[simp] theorem i5_h10 (op : BitVec 5) (a : BitVec 3) (b : BitVec 3) (imm : BitVec 5) :
    h10 (i5 op a b imm) = a.extractLsb' 2 1 := by
  apply BitVec.eq_of_toNat_eq; have := op.isLt; have := a.isLt; have := b.isLt; have := imm.isLt
  simp only [h10, i5, BitVec.extractLsb'_toNat, toNat_concat, Nat.shiftRight_eq_div_pow]; omega

@[simp] theorem i5_h8 (op : BitVec 5) (a : BitVec 3) (b : BitVec 3) (imm : BitVec 5) :
    h8 (i5 op a b imm) = a := by
  apply BitVec.eq_of_toNat_eq; have := op.isLt; have := a.isLt; have := b.isLt; have := imm.isLt
  simp only [h8, i5, BitVec.extractLsb'_toNat, toNat_concat, Nat.shiftRight_eq_div_pow]; omega

@[simp] theorem i5_h98 (op : BitVec 5) (a : BitVec 3) (b : BitVec 3) (imm : BitVec 5) :
    h98 (i5 op a b imm) = a.extractLsb' 0 2 := by
  apply BitVec.eq_of_toNat_eq; have := op.isLt; have := a.isLt; have := b.isLt; have := imm.isLt
  simp only [h98, i5, BitVec.extractLsb'_toNat, toNat_concat, Nat.shiftRight_eq_div_pow]; omega

@[simp] theorem i5_h5 (op : BitVec 5) (a : BitVec 3) (b : BitVec 3) (imm : BitVec 5) :
    h5 (i5 op a b imm) = b := by
  apply BitVec.eq_of_toNat_eq; have := op.isLt; have := a.isLt; have := b.isLt; have := imm.isLt
  simp only [h5, i5, BitVec.extractLsb'_toNat, toNat_concat, Nat.shiftRight_eq_div_pow]; omega

@[simp] theorem i5_h42 (op : BitVec 5) (a : BitVec 3) (b : BitVec 3) (imm : BitVec 5) :
    h42 (i5 op a b imm) = imm.extractLsb' 2 3 := by
  apply BitVec.eq_of_toNat_eq; have := op.isLt; have := a.isLt; have := b.isLt; have := imm.isLt
  simp only [h42, i5, BitVec.extractLsb'_toNat, toNat_concat, Nat.shiftRight_eq_div_pow]; omega

@[simp] theorem i5_h1 (op : BitVec 5) (a : BitVec 3) (b : BitVec 3) (imm : BitVec 5) :
    h1 (i5 op a b imm) = imm.extractLsb' 0 2 := by
  apply BitVec.eq_of_toNat_eq; have := op.isLt; have := a.isLt; have := b.isLt; have := imm.isLt
  simp only [h1, i5, BitVec.extractLsb'_toNat, toNat_concat, Nat.shiftRight_eq_div_pow]; omega

@[simp] theorem i5_h4 (op : BitVec 5) (a : BitVec 3) (b : BitVec 3) (imm : BitVec 5) :
    h4 (i5 op a b imm) = imm := by
  apply BitVec.eq_of_toNat_eq; have := op.isLt; have := a.isLt; have := b.isLt; have := imm.isLt
  simp only [h4, i5, BitVec.extractLsb'_toNat, toNat_concat, Nat.shiftRight_eq_div_pow]; omega

@[simp] theorem i5_hR15 (op : BitVec 5) (a : BitVec 3) (b : BitVec 3) (imm : BitVec 5) :
    hR15 (i5 op a b imm) = imm.extractLsb' 4 1 := by
  apply BitVec.eq_of_toNat_eq; have := op.isLt; have := a.isLt; have := b.isLt; have := imm.isLt
  simp only [hR15, i5, BitVec.extractLsb'_toNat, toNat_concat, Nat.shiftRight_eq_div_pow]; omega

@[simp] theorem i5_hList1 (op : BitVec 5) (a : BitVec 3) (b : BitVec 3) (imm : BitVec 5) :
    hList1 (i5 op a b imm) = imm.extractLsb' 0 4 := by
  apply BitVec.eq_of_toNat_eq; have := op.isLt; have := a.isLt; have := b.isLt; have := imm.isLt
  simp only [hList1, i5, BitVec.extractLsb'_toNat, toNat_concat, Nat.shiftRight_eq_div_pow]; omega

@[simp] theorem t16_h11 (op : BitVec 5) (a : BitVec 3) (b : BitVec 3) (c : BitVec 3) (sop : BitVec 2) :
    h11 (t16 op a b c sop) = op := by
  apply BitVec.eq_of_toNat_eq; have := op.isLt; have := a.isLt; have := b.isLt; have := c.isLt; have := sop.isLt
  simp only [h11, t16, BitVec.extractLsb'_toNat, toNat_concat, Nat.shiftRight_eq_div_pow]; omega

@[simp] theorem t16_h10 (op : BitVec 5) (a : BitVec 3) (b : BitVec 3) (c : BitVec 3) (sop : BitVec 2) :
    h10 (t16 op a b c sop) = a.extractLsb' 2 1 := by
  apply BitVec.eq_of_toNat_eq; have := op.isLt; have := a.isLt; have := b.isLt; have := c.isLt; have := sop.isLt
  simp only [h10, t16, BitVec.extractLsb'_toNat, toNat_concat, Nat.shiftRight_eq_div_pow]; omega

@[simp] theorem t16_h8 (op : BitVec 5) (a : BitVec 3) (b : BitVec 3) (c : BitVec 3) (sop : BitVec 2) :
    h8 (t16 op a b c sop) = a := by
  apply BitVec.eq_of_toNat_eq; have := op.isLt; have := a.isLt; have := b.isLt; have := c.isLt; have := sop.isLt
  simp only [h8, t16, BitVec.extractLsb'_toNat, toNat_concat, Nat.shiftRight_eq_div_pow]; omega

@[simp] theorem t16_h98 (op : BitVec 5) (a : BitVec 3) (b : BitVec 3) (c : BitVec 3) (sop : BitVec 2) :
    h98 (t16 op a b c sop) = a.extractLsb' 0 2 := by
  apply BitVec.eq_of_toNat_eq; have := op.isLt; have := a.isLt; have := b.isLt; have := c.isLt; have := sop.isLt
  simp only [h98, t16, BitVec.extractLsb'_toNat, toNat_concat, Nat.shiftRight_eq_div_pow]; omega

@[simp] theorem t16_h5 (op : BitVec 5) (a : BitVec 3) (b : BitVec 3) (c : BitVec 3) (sop : BitVec 2) :
    h5 (t16 op a b c sop) = b := by
  apply BitVec.eq_of_toNat_eq; have := op.isLt; have := a.isLt; have := b.isLt; have := c.isLt; have := sop.isLt
  simp only [h5, t16, BitVec.extractLsb'_toNat, toNat_concat, Nat.shiftRight_eq_div_pow]; omega

@[simp] theorem t16_h42 (op : BitVec 5) (a : BitVec 3) (b : BitVec 3) (c : BitVec 3) (sop : BitVec 2) :
    h42 (t16 op a b c sop) = c := by
  apply BitVec.eq_of_toNat_eq; have := op.isLt; have := a.isLt; have := b.isLt; have := c.isLt; have := sop.isLt
  simp only [h42, t16, BitVec.extractLsb'_toNat, toNat_concat, Nat.shiftRight_eq_div_pow]; omega

@[simp] theorem t16_h1 (op : BitVec 5) (a : BitVec 3) (b : BitVec 3) (c : BitVec 3) (sop : BitVec 2) :
    h1 (t16 op a b c sop) = sop := by
  apply BitVec.eq_of_toNat_eq; have := op.isLt; have := a.isLt; have := b.isLt; have := c.isLt; have := sop.isLt
  simp only [h1, t16, BitVec.extractLsb'_toNat, toNat_concat, Nat.shiftRight_eq_div_pow]; omega

@[simp] theorem t16_hR15 (op : BitVec 5) (a : BitVec 3) (b : BitVec 3) (c : BitVec 3) (sop : BitVec 2) :
    hR15 (t16 op a b c sop) = c.extractLsb' 2 1 := by
  apply BitVec.eq_of_toNat_eq; have := op.isLt; have := a.isLt; have := b.isLt; have := c.isLt; have := sop.isLt
  simp only [hR15, t16, BitVec.extractLsb'_toNat, toNat_concat, Nat.shiftRight_eq_div_pow]; omega

@[simp] theorem d16_h11 (op : BitVec 5) (b : BitVec 1) (a : BitVec 4) (c : BitVec 4) (sop : BitVec 2) :
    h11 (d16 op b a c sop) = op := by
  apply BitVec.eq_of_toNat_eq; have := op.isLt; have := b.isLt; have := a.isLt; have := c.isLt; have := sop.isLt
  simp only [h11, d16, BitVec.extractLsb'_toNat, toNat_concat, Nat.shiftRight_eq_div_pow]; omega

@[simp] theorem d16_h10 (op : BitVec 5) (b : BitVec 1) (a : BitVec 4) (c : BitVec 4) (sop : BitVec 2) :
    h10 (d16 op b a c sop) = b := by
  apply BitVec.eq_of_toNat_eq; have := op.isLt; have := b.isLt; have := a.isLt; have := c.isLt; have := sop.isLt
  simp only [h10, d16, BitVec.extractLsb'_toNat, toNat_concat, Nat.shiftRight_eq_div_pow]; omega

@[simp] theorem d16_h98 (op : BitVec 5) (b : BitVec 1) (a : BitVec 4) (c : BitVec 4) (sop : BitVec 2) :
    h98 (d16 op b a c sop) = a.extractLsb' 2 2 := by
  apply BitVec.eq_of_toNat_eq; have := op.isLt; have := b.isLt; have := a.isLt; have := c.isLt; have := sop.isLt
  simp only [h98, d16, BitVec.extractLsb'_toNat, toNat_concat, Nat.shiftRight_eq_div_pow]; omega

@[simp] theorem d16_h6 (op : BitVec 5) (b : BitVec 1) (a : BitVec 4) (c : BitVec 4) (sop : BitVec 2) :
    h6 (d16 op b a c sop) = a := by
  apply BitVec.eq_of_toNat_eq; have := op.isLt; have := b.isLt; have := a.isLt; have := c.isLt; have := sop.isLt
  simp only [h6, d16, BitVec.extractLsb'_toNat, toNat_concat, Nat.shiftRight_eq_div_pow]; omega

@[simp] theorem d16_h52 (op : BitVec 5) (b : BitVec 1) (a : BitVec 4) (c : BitVec 4) (sop : BitVec 2) :
    h52 (d16 op b a c sop) = c := by
  apply BitVec.eq_of_toNat_eq; have := op.isLt; have := b.isLt; have := a.isLt; have := c.isLt; have := sop.isLt
  simp only [h52, d16, BitVec.extractLsb'_toNat, toNat_concat, Nat.shiftRight_eq_div_pow]; omega

@[simp] theorem d16_h42 (op : BitVec 5) (b : BitVec 1) (a : BitVec 4) (c : BitVec 4) (sop : BitVec 2) :
    h42 (d16 op b a c sop) = c.extractLsb' 0 3 := by
  apply BitVec.eq_of_toNat_eq; have := op.isLt; have := b.isLt; have := a.isLt; have := c.isLt; have := sop.isLt
  simp only [h42, d16, BitVec.extractLsb'_toNat, toNat_concat, Nat.shiftRight_eq_div_pow]; omega

@[simp] theorem d16_h1 (op : BitVec 5) (b : BitVec 1) (a : BitVec 4) (c : BitVec 4) (sop : BitVec 2) :
    h1 (d16 op b a c sop) = sop := by
  apply BitVec.eq_of_toNat_eq; have := op.isLt; have := b.isLt; have := a.isLt; have := c.isLt; have := sop.isLt
  simp only [h1, d16, BitVec.extractLsb'_toNat, toNat_concat, Nat.shiftRight_eq_div_pow]; omega

@[simp] theorem d16_hR15 (op : BitVec 5) (b : BitVec 1) (a : BitVec 4) (c : BitVec 4) (sop : BitVec 2) :
    hR15 (d16 op b a c sop) = c.extractLsb' 2 1 := by
  apply BitVec.eq_of_toNat_eq; have := op.isLt; have := b.isLt; have := a.isLt; have := c.isLt; have := sop.isLt
  simp only [hR15, d16, BitVec.extractLsb'_toNat, toNat_concat, Nat.shiftRight_eq_div_pow]; omega

/-! ### Splitting and joining operand fields -/

theorem join_imm7 (x : BitVec 7) :
    x.extractLsb' 5 2 ++ x.extractLsb' 0 5 = x := by
  apply BitVec.eq_of_toNat_eq; have := x.isLt
  simp only [toNat_concat, BitVec.extractLsb'_toNat, Nat.shiftRight_eq_div_pow]; omega

theorem join_imm8 (x : BitVec 8) :
    x.extractLsb' 5 3 ++ x.extractLsb' 0 5 = x := by
  apply BitVec.eq_of_toNat_eq; have := x.isLt
  simp only [toNat_concat, BitVec.extractLsb'_toNat, Nat.shiftRight_eq_div_pow]; omega

theorem join_word (w : Word) :
    w.extractLsb' 16 16 ++ w.extractLsb' 0 16 = w := by
  apply BitVec.eq_of_toNat_eq; have := w.isLt
  simp only [toNat_concat, BitVec.extractLsb'_toNat, Nat.shiftRight_eq_div_pow]; omega

theorem concat_r15 (r : BitVec 1) (l : BitVec 4) :
    (r ++ l).extractLsb' 4 1 = r := by
  apply BitVec.eq_of_toNat_eq; have := r.isLt; have := l.isLt
  simp only [toNat_concat, BitVec.extractLsb'_toNat, Nat.shiftRight_eq_div_pow]; omega

theorem concat_list1 (r : BitVec 1) (l : BitVec 4) :
    (r ++ l).extractLsb' 0 4 = l := by
  apply BitVec.eq_of_toNat_eq; have := r.isLt; have := l.isLt
  simp only [toNat_concat, BitVec.extractLsb'_toNat, Nat.shiftRight_eq_div_pow]; omega

theorem concat_rz (r : BitVec 3) (l : BitVec 2) :
    (r ++ l).extractLsb' 2 3 = r := by
  apply BitVec.eq_of_toNat_eq; have := r.isLt; have := l.isLt
  simp only [toNat_concat, BitVec.extractLsb'_toNat, Nat.shiftRight_eq_div_pow]; omega

theorem concat_sop (r : BitVec 3) (l : BitVec 2) :
    (r ++ l).extractLsb' 0 2 = l := by
  apply BitVec.eq_of_toNat_eq; have := r.isLt; have := l.isLt
  simp only [toNat_concat, BitVec.extractLsb'_toNat, Nat.shiftRight_eq_div_pow]; omega

/-! ### The length mark of each layout (R131) -/

@[simp] theorem r32_isLong (op : BitVec 6) (a : BitVec 5) (b : BitVec 5) (sop : BitVec 6) (pc : BitVec 5) (z : BitVec 5) :
    isLong ((r32 op a b sop pc z).extractLsb' 16 16) = (op.extractLsb' 4 2 == 0b11#2) := by
  simp only [isLong]; congr 1; apply BitVec.eq_of_toNat_eq; have := op.isLt; have := a.isLt; have := b.isLt; have := sop.isLt; have := pc.isLt; have := z.isLt
  simp only [r32, BitVec.extractLsb'_toNat, toNat_concat, Nat.shiftRight_eq_div_pow]; omega

@[simp] theorem i12_isLong (op : BitVec 6) (a : BitVec 5) (b : BitVec 5) (sop : BitVec 4) (imm : BitVec 12) :
    isLong ((i12 op a b sop imm).extractLsb' 16 16) = (op.extractLsb' 4 2 == 0b11#2) := by
  simp only [isLong]; congr 1; apply BitVec.eq_of_toNat_eq; have := op.isLt; have := a.isLt; have := b.isLt; have := sop.isLt; have := imm.isLt
  simp only [i12, BitVec.extractLsb'_toNat, toNat_concat, Nat.shiftRight_eq_div_pow]; omega

@[simp] theorem i16_isLong (op : BitVec 6) (a : BitVec 5) (b : BitVec 5) (imm : BitVec 16) :
    isLong ((i16 op a b imm).extractLsb' 16 16) = (op.extractLsb' 4 2 == 0b11#2) := by
  simp only [isLong]; congr 1; apply BitVec.eq_of_toNat_eq; have := op.isLt; have := a.isLt; have := b.isLt; have := imm.isLt
  simp only [i16, BitVec.extractLsb'_toNat, toNat_concat, Nat.shiftRight_eq_div_pow]; omega

@[simp] theorem j26_isLong (op : BitVec 6) (off : BitVec 26) :
    isLong ((j26 op off).extractLsb' 16 16) = (op.extractLsb' 4 2 == 0b11#2) := by
  simp only [isLong]; congr 1; apply BitVec.eq_of_toNat_eq; have := op.isLt; have := off.isLt
  simp only [j26, BitVec.extractLsb'_toNat, toNat_concat, Nat.shiftRight_eq_div_pow]; omega

@[simp] theorem j10_isLong (op : BitVec 5) (b : BitVec 1) (off : BitVec 10) :
    isLong (j10 op b off) = (op.extractLsb' 3 2 == 0b11#2) := by
  simp only [isLong]; congr 1; apply BitVec.eq_of_toNat_eq; have := op.isLt; have := b.isLt; have := off.isLt
  simp only [j10, BitVec.extractLsb'_toNat, toNat_concat, Nat.shiftRight_eq_div_pow]; omega

@[simp] theorem s16_isLong (op : BitVec 5) (b : BitVec 1) (x : BitVec 2) (s : BitVec 3) (y : BitVec 5) :
    isLong (s16 op b x s y) = (op.extractLsb' 3 2 == 0b11#2) := by
  simp only [isLong]; congr 1; apply BitVec.eq_of_toNat_eq; have := op.isLt; have := b.isLt; have := x.isLt; have := s.isLt; have := y.isLt
  simp only [s16, BitVec.extractLsb'_toNat, toNat_concat, Nat.shiftRight_eq_div_pow]; omega

@[simp] theorem i8_isLong (op : BitVec 5) (z : BitVec 3) (imm : BitVec 8) :
    isLong (i8 op z imm) = (op.extractLsb' 3 2 == 0b11#2) := by
  simp only [isLong]; congr 1; apply BitVec.eq_of_toNat_eq; have := op.isLt; have := z.isLt; have := imm.isLt
  simp only [i8, BitVec.extractLsb'_toNat, toNat_concat, Nat.shiftRight_eq_div_pow]; omega

@[simp] theorem i5_isLong (op : BitVec 5) (a : BitVec 3) (b : BitVec 3) (imm : BitVec 5) :
    isLong (i5 op a b imm) = (op.extractLsb' 3 2 == 0b11#2) := by
  simp only [isLong]; congr 1; apply BitVec.eq_of_toNat_eq; have := op.isLt; have := a.isLt; have := b.isLt; have := imm.isLt
  simp only [i5, BitVec.extractLsb'_toNat, toNat_concat, Nat.shiftRight_eq_div_pow]; omega

@[simp] theorem t16_isLong (op : BitVec 5) (a : BitVec 3) (b : BitVec 3) (c : BitVec 3) (sop : BitVec 2) :
    isLong (t16 op a b c sop) = (op.extractLsb' 3 2 == 0b11#2) := by
  simp only [isLong]; congr 1; apply BitVec.eq_of_toNat_eq; have := op.isLt; have := a.isLt; have := b.isLt; have := c.isLt; have := sop.isLt
  simp only [t16, BitVec.extractLsb'_toNat, toNat_concat, Nat.shiftRight_eq_div_pow]; omega

@[simp] theorem d16_isLong (op : BitVec 5) (b : BitVec 1) (a : BitVec 4) (c : BitVec 4) (sop : BitVec 2) :
    isLong (d16 op b a c sop) = (op.extractLsb' 3 2 == 0b11#2) := by
  simp only [isLong]; congr 1; apply BitVec.eq_of_toNat_eq; have := op.isLt; have := b.isLt; have := a.isLt; have := c.isLt; have := sop.isLt
  simp only [d16, BitVec.extractLsb'_toNat, toNat_concat, Nat.shiftRight_eq_div_pow]; omega

end Sys2Proof
end

