-- ==== Sys2Proof/Laws/Memory.lean ====
section
/-! SUPPORT. Laws of memory: the canonical form is kept by every operation, a byte reads as what was written to it and as
before everywhere else, and what a store of one, two or four bytes does. -/

namespace Sys2Proof.Machine

/-! ### One byte -/

theorem Memory.get_cons (n : Nat) (b : Byte) (m : Memory) (k : Nat) (hm : k = n → Memory.get m k = Memory.unlisted) :
    Memory.get (Memory.cons n b m) k = if k = n then b else Memory.get m k := by
  unfold Memory.cons
  split
  · next h => split
              · next e => rw [hm e, h]
              · rfl
  · rfl

theorem Memory.wfFrom_weaken {lo lo' : Nat} (h : lo' ≤ lo) (m : Memory) (hm : Memory.wfFrom lo m) :
    Memory.wfFrom lo' m := by
  cases m with
  | nil => rfl
  | cons c rest =>
    obtain ⟨k, b⟩ := c
    simp only [Memory.wfFrom, Bool.and_eq_true, decide_eq_true_eq] at hm ⊢
    exact ⟨⟨⟨h.trans hm.1.1.1, hm.1.1.2⟩, hm.1.2⟩, hm.2⟩

/-- An address below the first listed one is not listed. -/
theorem Memory.get_below (m : Memory) : ∀ (lo n : Nat), Memory.wfFrom lo m → n < lo → Memory.get m n = Memory.unlisted := by
  induction m with
  | nil => intros; rfl
  | cons c rest ih =>
    intro lo n hm hn
    obtain ⟨k, b⟩ := c
    simp only [Memory.wfFrom, Bool.and_eq_true, decide_eq_true_eq] at hm
    have : n ≠ k := by omega
    simp only [Memory.get, this, if_false]
    exact ih (k + 1) n hm.2 (by omega)

theorem Memory.wfFrom_cons {lo n : Nat} (b : Byte) (m : Memory) (h1 : lo ≤ n) (h2 : n < 2 ^ 32)
    (h3 : Memory.wfFrom (n + 1) m) : Memory.wfFrom lo (Memory.cons n b m) := by
  unfold Memory.cons
  split
  · exact Memory.wfFrom_weaken (by omega) m h3
  · next h => simp only [Memory.wfFrom, Bool.and_eq_true, decide_eq_true_eq]; exact ⟨⟨⟨h1, h2⟩, h⟩, h3⟩

theorem Memory.wfFrom_set (m : Memory) : ∀ (lo n : Nat) (b : Byte), Memory.wfFrom lo m → lo ≤ n → n < 2 ^ 32 →
    Memory.wfFrom lo (Memory.set m n b) := by
  induction m with
  | nil => intro lo n b _ h1 h2; exact Memory.wfFrom_cons b [] h1 h2 rfl
  | cons c rest ih =>
    intro lo n b hm h1 h2
    obtain ⟨k, x⟩ := c
    have hm' := hm
    simp only [Memory.wfFrom, Bool.and_eq_true, decide_eq_true_eq] at hm
    unfold Memory.set
    split
    · refine Memory.wfFrom_cons b _ h1 h2 ?_
      simp only [Memory.wfFrom, Bool.and_eq_true, decide_eq_true_eq]
      exact ⟨⟨⟨by omega, hm.1.1.2⟩, hm.1.2⟩, hm.2⟩
    · split
      · next e => subst e; exact Memory.wfFrom_cons b rest h1 h2 hm.2
      · next hn he =>
        simp only [Memory.wfFrom, Bool.and_eq_true, decide_eq_true_eq]
        exact ⟨hm.1, ih (k + 1) n b hm.2 (by omega) h2⟩

theorem Memory.get_set (m : Memory) : ∀ (lo n : Nat) (b : Byte) (k : Nat), Memory.wfFrom lo m →
    Memory.get (Memory.set m n b) k = if k = n then b else Memory.get m k := by
  induction m with
  | nil => intro lo n b k _; exact Memory.get_cons n b [] k (fun _ => rfl)
  | cons c rest ih =>
    intro lo n b j hm
    obtain ⟨k, x⟩ := c
    simp only [Memory.wfFrom, Bool.and_eq_true, decide_eq_true_eq] at hm
    unfold Memory.set
    split
    · next h =>
      refine Memory.get_cons n b _ j ?_
      intro e; subst e
      have : j ≠ k := by omega
      simp only [Memory.get, this, if_false]
      exact Memory.get_below rest (k + 1) j hm.2 (by omega)
    · split
      · next e =>
        subst e
        rw [Memory.get_cons n b rest j (fun e => by subst e; exact Memory.get_below rest (j + 1) j hm.2 (by omega))]
        by_cases hj : j = n <;> simp [Memory.get, hj]
      · next hn he =>
        simp only [Memory.get]
        rw [ih (k + 1) n b j hm.2]
        by_cases hj : j = k
        · have : k ≠ n := fun e => he e.symm
          simp [hj, this]
        · simp [hj]

/-! ### Reading and writing at an address -/

/-- Memory keeps its canonical form when a byte is written (log 4). -/
theorem Memory.wf_write (m : Memory) (a : Word) (b : Byte) (h : m.wf) : (m.write a b).wf :=
  Memory.wfFrom_set m 0 a.toNat b h (Nat.zero_le _) a.isLt

theorem Memory.read_write (m : Memory) (a c : Word) (b : Byte) (h : m.wf) :
    (m.write a b).read c = if c = a then b else m.read c := by
  unfold Memory.read Memory.write
  rw [Memory.get_set m 0 a.toNat b c.toNat h]
  simp only [BitVec.toNat_inj]

theorem Memory.wf_writeBytes (l : List (Word × Byte)) : ∀ m : Memory, m.wf → (m.writeBytes l).wf := by
  induction l with
  | nil => intro m h; exact h
  | cons c rest ih => intro m h; exact ih _ (Memory.wf_write m c.1 c.2 h)

/-- Memory keeps its canonical form when a value is stored (log 4). -/
theorem Memory.wf_store (big : Bool) (m : Memory) (a : Word) (w : Width) (v : Word) (h : m.wf) :
    (m.store big a w v).wf := Memory.wf_writeBytes _ m h

/-- Bytes outside the written addresses read as before. -/
theorem Memory.read_writeBytes_frame (l : List (Word × Byte)) : ∀ (m : Memory) (c : Word), m.wf →
    c ∉ l.map Prod.fst → (m.writeBytes l).read c = m.read c := by
  induction l with
  | nil => intros; rfl
  | cons p rest ih =>
    intro m c h hc
    simp only [List.map_cons, List.mem_cons, not_or] at hc
    show ((m.write p.1 p.2).writeBytes rest).read c = _
    rw [ih _ c (Memory.wf_write m _ _ h) hc.2, Memory.read_write m _ c _ h, if_neg hc.1]

theorem byteAddresses_length (a : Word) (n : Nat) : (byteAddresses a n).length = n := by
  induction n generalizing a with
  | zero => rfl
  | succ n ih => simp [byteAddresses, ih]

theorem byteOrder_length (big : Bool) (l : List Byte) : (byteOrder big l).length = l.length := by
  unfold byteOrder; split <;> simp

theorem disassemble_length (v : Word) (n : Nat) : (disassemble v n).length = n := by
  induction n generalizing v with
  | zero => rfl
  | succ n ih => simp [disassemble, ih]

/-- A store leaves every byte outside its own addresses as it was (20_memory R86). -/
theorem Memory.read_store_frame (big : Bool) (m : Memory) (a : Word) (w : Width) (v c : Word) (h : m.wf)
    (hc : c ∉ byteAddresses a w.bytes) : (m.store big a w v).read c = m.read c := by
  refine Memory.read_writeBytes_frame _ m c h ?_
  rw [List.map_fst_zip (by simp [byteAddresses_length, byteOrder_length, disassemble_length])]
  exact hc

/-! ### A store read back -/

theorem byteAddresses_four (a : Word) : byteAddresses a 4 = [a, a + 1, a + 2, a + 3] := by
  simp [byteAddresses, BitVec.add_assoc]

/-- A word is its four bytes. -/
theorem assemble_disassemble_four (v : Word) : assemble (disassemble v 4) = v := by
  apply BitVec.eq_of_getLsbD_eq
  intro i hi
  simp only [assemble, disassemble]
  interval_cases i <;> simp

theorem assemble_disassemble_two (v : Word) : assemble (disassemble v 2) = (v.extractLsb' 0 16).zeroExtend 32 := by
  apply BitVec.eq_of_getLsbD_eq
  intro i hi
  simp only [assemble, disassemble]
  interval_cases i <;> simp

theorem assemble_disassemble_one (v : Word) : assemble (disassemble v 1) = (v.extractLsb' 0 8).zeroExtend 32 := by
  apply BitVec.eq_of_getLsbD_eq
  intro i hi
  simp only [assemble, disassemble]
  interval_cases i <;> simp

theorem add_ne (a : Word) : a ≠ a + 1 ∧ a ≠ a + 2 ∧ a ≠ a+3 ∧ a + 1 ≠ a+2 ∧ a+1 ≠ a+3 ∧ a+2 ≠ a+3 := by
  refine ⟨?_,?_,?_,?_,?_,?_⟩ <;> bv_omega

theorem byteOrder_byteOrder (b : Bool) (l : List Byte) : byteOrder b (byteOrder b l) = l := by
  unfold byteOrder; cases b <;> simp

/-- Bytes written at different addresses read back as written. -/
theorem map_read_writeBytes (l : List Word) : ∀ (m : Memory) (v : List Byte), m.wf → l.Nodup → v.length = l.length → l.map (m.writeBytes (l.zip v)).read = v := by
  induction l with
  | nil => intro m v _ _ h; cases v with
    | nil => rfl
    | cons b v => simp at h
  | cons a l ih =>
    intro m v hm hn hv
    obtain ⟨b, v, rfl⟩ : ∃ b v', v = b :: v' := by cases v <;> simp_all
    simp only [List.nodup_cons] at hn
    simp only [List.length_cons, Nat.add_right_cancel_iff] at hv
    simp only [List.zip_cons_cons, List.map_cons, Memory.writeBytes]
    rw [ih _ v (Memory.wf_write m a b hm) hn.2 hv,
      Memory.read_writeBytes_frame _ _ a (Memory.wf_write m a b hm) (by rw [List.map_fst_zip (by omega)]; exact hn.1),
      Memory.read_write m a a b hm, if_pos rfl]

/-- The bytes of one access are different bytes. -/
theorem byteAddresses_nodup (a : Word) (w : Width) : (byteAddresses a w.bytes).Nodup := by
  have ⟨h1, h2, h3, h4, h5, h6⟩ := add_ne a
  cases w <;> simp [Width.bytes, byteAddresses_four, byteAddresses, *]

/-- A value loaded from where it was stored, with the same width, is the low part of what was stored (20_memory R86). -/
theorem Memory.load_store (big : Bool) (m : Memory) (a : Word) (w : Width) (v : Word) (h : m.wf) :
    (m.store big a w v).load big a w = assemble (disassemble v w.bytes) := by
  unfold Memory.load Memory.store
  rw [map_read_writeBytes _ m _ h (byteAddresses_nodup a w) (by simp [byteAddresses_length, byteOrder_length, disassemble_length]), byteOrder_byteOrder]

end Sys2Proof.Machine
end

