-- ==== Sys2Proof/Laws/State.lean ====
section
/-! SUPPORT. The fields of every state update, one lemma per field and update, true by definition; and what reading a
register or PSR gives after an update. -/

namespace Sys2Proof.Machine

/-! ### `setReg` -/

@[simp] theorem setReg_gpr (s : State) (r : Slot) (v : Word) : (s.setReg r v).gpr = s.gpr.set r v := rfl
@[simp] theorem setReg_pc (s : State) (r : Slot) (v : Word) : (s.setReg r v).pc = s.pc := rfl
@[simp] theorem setReg_psr (s : State) (r : Slot) (v : Word) : (s.setReg r v).psr = s.psr := rfl
@[simp] theorem setReg_vbr (s : State) (r : Slot) (v : Word) : (s.setReg r v).vbr = s.vbr := rfl
@[simp] theorem setReg_epsr (s : State) (r : Slot) (v : Word) : (s.setReg r v).epsr = s.epsr := rfl
@[simp] theorem setReg_epc (s : State) (r : Slot) (v : Word) : (s.setReg r v).epc = s.epc := rfl
@[simp] theorem setReg_gcr (s : State) (r : Slot) (v : Word) : (s.setReg r v).gcr = s.gcr := rfl
@[simp] theorem setReg_mp (s : State) (r : Slot) (v : Word) : (s.setReg r v).mp = s.mp := rfl
@[simp] theorem setReg_capr (s : State) (r : Slot) (v : Word) : (s.setReg r v).capr = s.capr := rfl
@[simp] theorem setReg_pacr (s : State) (r : Slot) (v : Word) : (s.setReg r v).pacr = s.pacr := rfl
@[simp] theorem setReg_rid (s : State) (r : Slot) (v : Word) : (s.setReg r v).rid = s.rid := rfl
@[simp] theorem setReg_mem (s : State) (r : Slot) (v : Word) : (s.setReg r v).mem = s.mem := rfl
@[simp] theorem setReg_mode (s : State) (r : Slot) (v : Word) : (s.setReg r v).mode = s.mode := rfl
@[simp] theorem setReg_resetPhase (s : State) (r : Slot) (v : Word) : (s.setReg r v).resetPhase = s.resetPhase := rfl
@[simp] theorem setReg_softResets (s : State) (r : Slot) (v : Word) : (s.setReg r v).softResets = s.softResets := rfl
@[simp] theorem setReg_written (s : State) (r : Slot) (v : Word) : (s.setReg r v).written = s.written := rfl
@[simp] theorem setReg_mpuUnsafe (s : State) (r : Slot) (v : Word) : (s.setReg r v).mpuUnsafe = s.mpuUnsafe := rfl
@[simp] theorem setReg_freeCount (s : State) (r : Slot) (v : Word) : (s.setReg r v).freeCount = s.freeCount := rfl
@[simp] theorem setReg_inputs (s : State) (r : Slot) (v : Word) : (s.setReg r v).inputs = s.inputs := rfl
@[simp] theorem setReg_schedule (s : State) (r : Slot) (v : Word) : (s.setReg r v).schedule = s.schedule := rfl
@[simp] theorem setReg_cfg (s : State) (r : Slot) (v : Word) : (s.setReg r v).cfg = s.cfg := rfl

/-! ### `setC` -/

@[simp] theorem setC_gpr (s : State) (c : Bool) : (s.setC c).gpr = s.gpr := rfl
@[simp] theorem setC_pc (s : State) (c : Bool) : (s.setC c).pc = s.pc := rfl
@[simp] theorem setC_psr (s : State) (c : Bool) : (s.setC c).psr = { s.psr with c := c } := rfl
@[simp] theorem setC_vbr (s : State) (c : Bool) : (s.setC c).vbr = s.vbr := rfl
@[simp] theorem setC_epsr (s : State) (c : Bool) : (s.setC c).epsr = s.epsr := rfl
@[simp] theorem setC_epc (s : State) (c : Bool) : (s.setC c).epc = s.epc := rfl
@[simp] theorem setC_gcr (s : State) (c : Bool) : (s.setC c).gcr = s.gcr := rfl
@[simp] theorem setC_mp (s : State) (c : Bool) : (s.setC c).mp = s.mp := rfl
@[simp] theorem setC_capr (s : State) (c : Bool) : (s.setC c).capr = s.capr := rfl
@[simp] theorem setC_pacr (s : State) (c : Bool) : (s.setC c).pacr = s.pacr := rfl
@[simp] theorem setC_rid (s : State) (c : Bool) : (s.setC c).rid = s.rid := rfl
@[simp] theorem setC_mem (s : State) (c : Bool) : (s.setC c).mem = s.mem := rfl
@[simp] theorem setC_mode (s : State) (c : Bool) : (s.setC c).mode = s.mode := rfl
@[simp] theorem setC_resetPhase (s : State) (c : Bool) : (s.setC c).resetPhase = s.resetPhase := rfl
@[simp] theorem setC_softResets (s : State) (c : Bool) : (s.setC c).softResets = s.softResets := rfl
@[simp] theorem setC_written (s : State) (c : Bool) : (s.setC c).written = s.written := rfl
@[simp] theorem setC_mpuUnsafe (s : State) (c : Bool) : (s.setC c).mpuUnsafe = s.mpuUnsafe := rfl
@[simp] theorem setC_freeCount (s : State) (c : Bool) : (s.setC c).freeCount = s.freeCount := rfl
@[simp] theorem setC_inputs (s : State) (c : Bool) : (s.setC c).inputs = s.inputs := rfl
@[simp] theorem setC_schedule (s : State) (c : Bool) : (s.setC c).schedule = s.schedule := rfl
@[simp] theorem setC_cfg (s : State) (c : Bool) : (s.setC c).cfg = s.cfg := rfl

/-! ### `setPc` -/

@[simp] theorem setPc_gpr (s : State) (a : Word) : (s.setPc a).gpr = s.gpr := rfl
@[simp] theorem setPc_pc (s : State) (a : Word) : (s.setPc a).pc = a &&& 0xFFFFFFFE#32 := rfl
@[simp] theorem setPc_psr (s : State) (a : Word) : (s.setPc a).psr = s.psr := rfl
@[simp] theorem setPc_vbr (s : State) (a : Word) : (s.setPc a).vbr = s.vbr := rfl
@[simp] theorem setPc_epsr (s : State) (a : Word) : (s.setPc a).epsr = s.epsr := rfl
@[simp] theorem setPc_epc (s : State) (a : Word) : (s.setPc a).epc = s.epc := rfl
@[simp] theorem setPc_gcr (s : State) (a : Word) : (s.setPc a).gcr = s.gcr := rfl
@[simp] theorem setPc_mp (s : State) (a : Word) : (s.setPc a).mp = s.mp := rfl
@[simp] theorem setPc_capr (s : State) (a : Word) : (s.setPc a).capr = s.capr := rfl
@[simp] theorem setPc_pacr (s : State) (a : Word) : (s.setPc a).pacr = s.pacr := rfl
@[simp] theorem setPc_rid (s : State) (a : Word) : (s.setPc a).rid = s.rid := rfl
@[simp] theorem setPc_mem (s : State) (a : Word) : (s.setPc a).mem = s.mem := rfl
@[simp] theorem setPc_mode (s : State) (a : Word) : (s.setPc a).mode = s.mode := rfl
@[simp] theorem setPc_resetPhase (s : State) (a : Word) : (s.setPc a).resetPhase = s.resetPhase := rfl
@[simp] theorem setPc_softResets (s : State) (a : Word) : (s.setPc a).softResets = s.softResets := rfl
@[simp] theorem setPc_written (s : State) (a : Word) : (s.setPc a).written = s.written := rfl
@[simp] theorem setPc_mpuUnsafe (s : State) (a : Word) : (s.setPc a).mpuUnsafe = s.mpuUnsafe := rfl
@[simp] theorem setPc_freeCount (s : State) (a : Word) : (s.setPc a).freeCount = s.freeCount := rfl
@[simp] theorem setPc_inputs (s : State) (a : Word) : (s.setPc a).inputs = s.inputs := rfl
@[simp] theorem setPc_schedule (s : State) (a : Word) : (s.setPc a).schedule = s.schedule := rfl
@[simp] theorem setPc_cfg (s : State) (a : Word) : (s.setPc a).cfg = s.cfg := rfl

/-! ### `advance` -/

@[simp] theorem advance_gpr (s : State) (n : Word) : (s.advance n).gpr = s.gpr := rfl
@[simp] theorem advance_pc (s : State) (n : Word) : (s.advance n).pc = s.pc + n := rfl
@[simp] theorem advance_psr (s : State) (n : Word) : (s.advance n).psr = s.psr := rfl
@[simp] theorem advance_vbr (s : State) (n : Word) : (s.advance n).vbr = s.vbr := rfl
@[simp] theorem advance_epsr (s : State) (n : Word) : (s.advance n).epsr = s.epsr := rfl
@[simp] theorem advance_epc (s : State) (n : Word) : (s.advance n).epc = s.epc := rfl
@[simp] theorem advance_gcr (s : State) (n : Word) : (s.advance n).gcr = s.gcr := rfl
@[simp] theorem advance_mp (s : State) (n : Word) : (s.advance n).mp = s.mp := rfl
@[simp] theorem advance_capr (s : State) (n : Word) : (s.advance n).capr = s.capr := rfl
@[simp] theorem advance_pacr (s : State) (n : Word) : (s.advance n).pacr = s.pacr := rfl
@[simp] theorem advance_rid (s : State) (n : Word) : (s.advance n).rid = s.rid := rfl
@[simp] theorem advance_mem (s : State) (n : Word) : (s.advance n).mem = s.mem := rfl
@[simp] theorem advance_mode (s : State) (n : Word) : (s.advance n).mode = s.mode := rfl
@[simp] theorem advance_resetPhase (s : State) (n : Word) : (s.advance n).resetPhase = s.resetPhase := rfl
@[simp] theorem advance_softResets (s : State) (n : Word) : (s.advance n).softResets = s.softResets := rfl
@[simp] theorem advance_written (s : State) (n : Word) : (s.advance n).written = s.written := rfl
@[simp] theorem advance_mpuUnsafe (s : State) (n : Word) : (s.advance n).mpuUnsafe = s.mpuUnsafe := rfl
@[simp] theorem advance_freeCount (s : State) (n : Word) : (s.advance n).freeCount = s.freeCount := rfl
@[simp] theorem advance_inputs (s : State) (n : Word) : (s.advance n).inputs = s.inputs := rfl
@[simp] theorem advance_schedule (s : State) (n : Word) : (s.advance n).schedule = s.schedule := rfl
@[simp] theorem advance_cfg (s : State) (n : Word) : (s.advance n).cfg = s.cfg := rfl

/-! ### `storeState` -/

@[simp] theorem storeState_gpr (s : State) (a : Word) (w : Width) (v : Word) : (storeState s a w v).gpr = s.gpr := rfl
@[simp] theorem storeState_pc (s : State) (a : Word) (w : Width) (v : Word) : (storeState s a w v).pc = s.pc := rfl
@[simp] theorem storeState_psr (s : State) (a : Word) (w : Width) (v : Word) : (storeState s a w v).psr = s.psr := rfl
@[simp] theorem storeState_vbr (s : State) (a : Word) (w : Width) (v : Word) : (storeState s a w v).vbr = s.vbr := rfl
@[simp] theorem storeState_epsr (s : State) (a : Word) (w : Width) (v : Word) : (storeState s a w v).epsr = s.epsr := rfl
@[simp] theorem storeState_epc (s : State) (a : Word) (w : Width) (v : Word) : (storeState s a w v).epc = s.epc := rfl
@[simp] theorem storeState_gcr (s : State) (a : Word) (w : Width) (v : Word) : (storeState s a w v).gcr = s.gcr := rfl
@[simp] theorem storeState_mp (s : State) (a : Word) (w : Width) (v : Word) : (storeState s a w v).mp = s.mp := rfl
@[simp] theorem storeState_capr (s : State) (a : Word) (w : Width) (v : Word) : (storeState s a w v).capr = s.capr := rfl
@[simp] theorem storeState_pacr (s : State) (a : Word) (w : Width) (v : Word) : (storeState s a w v).pacr = s.pacr := rfl
@[simp] theorem storeState_rid (s : State) (a : Word) (w : Width) (v : Word) : (storeState s a w v).rid = s.rid := rfl
@[simp] theorem storeState_mem (s : State) (a : Word) (w : Width) (v : Word) : (storeState s a w v).mem = s.mem.store s.cfg.bigEndian a w v := rfl
@[simp] theorem storeState_mode (s : State) (a : Word) (w : Width) (v : Word) : (storeState s a w v).mode = s.mode := rfl
@[simp] theorem storeState_resetPhase (s : State) (a : Word) (w : Width) (v : Word) : (storeState s a w v).resetPhase = s.resetPhase := rfl
@[simp] theorem storeState_softResets (s : State) (a : Word) (w : Width) (v : Word) : (storeState s a w v).softResets = s.softResets := rfl
@[simp] theorem storeState_written (s : State) (a : Word) (w : Width) (v : Word) : (storeState s a w v).written = noteStored s (byteAddresses a w.bytes) := rfl
@[simp] theorem storeState_mpuUnsafe (s : State) (a : Word) (w : Width) (v : Word) : (storeState s a w v).mpuUnsafe = s.mpuUnsafe := rfl
@[simp] theorem storeState_freeCount (s : State) (a : Word) (w : Width) (v : Word) : (storeState s a w v).freeCount = s.freeCount := rfl
@[simp] theorem storeState_inputs (s : State) (a : Word) (w : Width) (v : Word) : (storeState s a w v).inputs = s.inputs := rfl
@[simp] theorem storeState_schedule (s : State) (a : Word) (w : Width) (v : Word) : (storeState s a w v).schedule = s.schedule := rfl
@[simp] theorem storeState_cfg (s : State) (a : Word) (w : Width) (v : Word) : (storeState s a w v).cfg = s.cfg := rfl

/-! ### `enterVector` -/

@[simp] theorem enterVector_gpr (s : State) (v : Byte) (e : Word) : (s.enterVector v e).gpr = s.gpr := rfl
@[simp] theorem enterVector_pc (s : State) (v : Byte) (e : Word) : (s.enterVector v e).pc = s.pc := rfl
@[simp] theorem enterVector_psr (s : State) (v : Byte) (e : Word) : (s.enterVector v e).psr = { s.psr with s := true, vec := v, ee := false, ie := false } := rfl
@[simp] theorem enterVector_vbr (s : State) (v : Byte) (e : Word) : (s.enterVector v e).vbr = s.vbr := rfl
@[simp] theorem enterVector_epsr (s : State) (v : Byte) (e : Word) : (s.enterVector v e).epsr = s.psr.toWord := rfl
@[simp] theorem enterVector_epc (s : State) (v : Byte) (e : Word) : (s.enterVector v e).epc = e := rfl
@[simp] theorem enterVector_gcr (s : State) (v : Byte) (e : Word) : (s.enterVector v e).gcr = s.gcr := rfl
@[simp] theorem enterVector_mp (s : State) (v : Byte) (e : Word) : (s.enterVector v e).mp = s.mp := rfl
@[simp] theorem enterVector_capr (s : State) (v : Byte) (e : Word) : (s.enterVector v e).capr = s.capr := rfl
@[simp] theorem enterVector_pacr (s : State) (v : Byte) (e : Word) : (s.enterVector v e).pacr = s.pacr := rfl
@[simp] theorem enterVector_rid (s : State) (v : Byte) (e : Word) : (s.enterVector v e).rid = s.rid := rfl
@[simp] theorem enterVector_mem (s : State) (v : Byte) (e : Word) : (s.enterVector v e).mem = s.mem := rfl
@[simp] theorem enterVector_mode (s : State) (v : Byte) (e : Word) : (s.enterVector v e).mode = .normal := rfl
@[simp] theorem enterVector_resetPhase (s : State) (v : Byte) (e : Word) : (s.enterVector v e).resetPhase = s.resetPhase := rfl
@[simp] theorem enterVector_softResets (s : State) (v : Byte) (e : Word) : (s.enterVector v e).softResets = s.softResets := rfl
@[simp] theorem enterVector_written (s : State) (v : Byte) (e : Word) : (s.enterVector v e).written = s.written := rfl
@[simp] theorem enterVector_mpuUnsafe (s : State) (v : Byte) (e : Word) : (s.enterVector v e).mpuUnsafe = s.mpuUnsafe := rfl
@[simp] theorem enterVector_freeCount (s : State) (v : Byte) (e : Word) : (s.enterVector v e).freeCount = s.freeCount := rfl
@[simp] theorem enterVector_inputs (s : State) (v : Byte) (e : Word) : (s.enterVector v e).inputs = s.inputs := rfl
@[simp] theorem enterVector_schedule (s : State) (v : Byte) (e : Word) : (s.enterVector v e).schedule = s.schedule := rfl
@[simp] theorem enterVector_cfg (s : State) (v : Byte) (e : Word) : (s.enterVector v e).cfg = s.cfg := rfl

/-! ### `returnFromException` -/

@[simp] theorem returnFromException_gpr (s : State) : (s.returnFromException).gpr = s.gpr := rfl
@[simp] theorem returnFromException_pc (s : State) : (s.returnFromException).pc = s.epc &&& 0xFFFFFFFE#32 := rfl
@[simp] theorem returnFromException_psr (s : State) : (s.returnFromException).psr = Psr.ofWord s.cfg.hasBctm s.epsr := rfl
@[simp] theorem returnFromException_vbr (s : State) : (s.returnFromException).vbr = s.vbr := rfl
@[simp] theorem returnFromException_epsr (s : State) : (s.returnFromException).epsr = s.epsr := rfl
@[simp] theorem returnFromException_epc (s : State) : (s.returnFromException).epc = s.epc := rfl
@[simp] theorem returnFromException_gcr (s : State) : (s.returnFromException).gcr = s.gcr := rfl
@[simp] theorem returnFromException_mp (s : State) : (s.returnFromException).mp = s.mp := rfl
@[simp] theorem returnFromException_capr (s : State) : (s.returnFromException).capr = s.capr := rfl
@[simp] theorem returnFromException_pacr (s : State) : (s.returnFromException).pacr = s.pacr := rfl
@[simp] theorem returnFromException_rid (s : State) : (s.returnFromException).rid = s.rid := rfl
@[simp] theorem returnFromException_mem (s : State) : (s.returnFromException).mem = s.mem := rfl
@[simp] theorem returnFromException_mode (s : State) : (s.returnFromException).mode = s.mode := rfl
@[simp] theorem returnFromException_resetPhase (s : State) : (s.returnFromException).resetPhase = s.resetPhase := rfl
@[simp] theorem returnFromException_softResets (s : State) : (s.returnFromException).softResets = s.softResets := rfl
@[simp] theorem returnFromException_written (s : State) : (s.returnFromException).written = s.written := rfl
@[simp] theorem returnFromException_mpuUnsafe (s : State) : (s.returnFromException).mpuUnsafe = s.mpuUnsafe := rfl
@[simp] theorem returnFromException_freeCount (s : State) : (s.returnFromException).freeCount = s.freeCount := rfl
@[simp] theorem returnFromException_inputs (s : State) : (s.returnFromException).inputs = s.inputs := rfl
@[simp] theorem returnFromException_schedule (s : State) : (s.returnFromException).schedule = s.schedule := rfl
@[simp] theorem returnFromException_cfg (s : State) : (s.returnFromException).cfg = s.cfg := rfl

/-! ### `resetRegisters` -/

@[simp] theorem resetRegisters_pc (s : State) : (s.resetRegisters).pc = s.pc := by simp only [State.resetRegisters]
@[simp] theorem resetRegisters_psr (s : State) : (s.resetRegisters).psr = Psr.reset := by simp only [State.resetRegisters]
@[simp] theorem resetRegisters_vbr (s : State) : (s.resetRegisters).vbr = 0 := by simp only [State.resetRegisters]
@[simp] theorem resetRegisters_mp (s : State) : (s.resetRegisters).mp = 0 := by simp only [State.resetRegisters]
@[simp] theorem resetRegisters_capr (s : State) : (s.resetRegisters).capr = 0 := by simp only [State.resetRegisters]
@[simp] theorem resetRegisters_mem (s : State) : (s.resetRegisters).mem = s.mem := by simp only [State.resetRegisters]
@[simp] theorem resetRegisters_mode (s : State) : (s.resetRegisters).mode = .normal := by simp only [State.resetRegisters]
@[simp] theorem resetRegisters_resetPhase (s : State) : (s.resetRegisters).resetPhase = .running := by simp only [State.resetRegisters]
@[simp] theorem resetRegisters_softResets (s : State) : (s.resetRegisters).softResets = s.softResets := by simp only [State.resetRegisters]
@[simp] theorem resetRegisters_written (s : State) : (s.resetRegisters).written = s.written := by simp only [State.resetRegisters]
@[simp] theorem resetRegisters_mpuUnsafe (s : State) : (s.resetRegisters).mpuUnsafe = false := by simp only [State.resetRegisters]
@[simp] theorem resetRegisters_freeCount (s : State) : (s.resetRegisters).freeCount = s.freeCount + 33 := by simp only [State.resetRegisters]
@[simp] theorem resetRegisters_inputs (s : State) : (s.resetRegisters).inputs = s.inputs := by simp only [State.resetRegisters]
@[simp] theorem resetRegisters_schedule (s : State) : (s.resetRegisters).schedule = s.schedule := by simp only [State.resetRegisters]
@[simp] theorem resetRegisters_cfg (s : State) : (s.resetRegisters).cfg = s.cfg := by simp only [State.resetRegisters]

/-! ### `tick` -/

@[simp] theorem tick_gpr (s : State) : s.tick.gpr = s.gpr := by
  unfold State.tick; split <;> rfl
@[simp] theorem tick_pc (s : State) : s.tick.pc = s.pc := by
  unfold State.tick; split <;> rfl
@[simp] theorem tick_psr (s : State) : s.tick.psr = s.psr := by
  unfold State.tick; split <;> rfl
@[simp] theorem tick_vbr (s : State) : s.tick.vbr = s.vbr := by
  unfold State.tick; split <;> rfl
@[simp] theorem tick_epsr (s : State) : s.tick.epsr = s.epsr := by
  unfold State.tick; split <;> rfl
@[simp] theorem tick_epc (s : State) : s.tick.epc = s.epc := by
  unfold State.tick; split <;> rfl
@[simp] theorem tick_gcr (s : State) : s.tick.gcr = s.gcr := by
  unfold State.tick; split <;> rfl
@[simp] theorem tick_mp (s : State) : s.tick.mp = s.mp := by
  unfold State.tick; split <;> rfl
@[simp] theorem tick_capr (s : State) : s.tick.capr = s.capr := by
  unfold State.tick; split <;> rfl
@[simp] theorem tick_pacr (s : State) : s.tick.pacr = s.pacr := by
  unfold State.tick; split <;> rfl
@[simp] theorem tick_rid (s : State) : s.tick.rid = s.rid := by
  unfold State.tick; split <;> rfl
@[simp] theorem tick_mem (s : State) : s.tick.mem = s.mem := by
  unfold State.tick; split <;> rfl
@[simp] theorem tick_mode (s : State) : s.tick.mode = s.mode := by
  unfold State.tick; split <;> rfl
@[simp] theorem tick_resetPhase (s : State) : s.tick.resetPhase = s.resetPhase := by
  unfold State.tick; split <;> rfl
@[simp] theorem tick_softResets (s : State) : s.tick.softResets = s.softResets := by
  unfold State.tick; split <;> rfl
@[simp] theorem tick_written (s : State) : s.tick.written = s.written := by
  unfold State.tick; split <;> rfl
@[simp] theorem tick_mpuUnsafe (s : State) : s.tick.mpuUnsafe = s.mpuUnsafe := by
  unfold State.tick; split <;> rfl
@[simp] theorem tick_freeCount (s : State) : s.tick.freeCount = s.freeCount := by
  unfold State.tick; split <;> rfl
@[simp] theorem tick_cfg (s : State) : s.tick.cfg = s.cfg := by
  unfold State.tick; split <;> rfl

/-! ### Registers -/

@[simp] theorem reg_setReg_same (s : State) (r : Slot) (v : Word) : (s.setReg r v).reg r = v := by
  simp [State.reg, State.setReg]

theorem reg_setReg (s : State) (r q : Slot) (v : Word) : (s.setReg r v).reg q = if q = r then v else s.reg q := by
  simp only [State.reg, State.setReg, Fin.getElem_fin, Vector.getElem_set, Fin.ext_iff, eq_comm]

theorem reg_setReg_ne (s : State) {r q : Slot} (v : Word) (h : q ≠ r) : (s.setReg r v).reg q = s.reg q := by
  rw [reg_setReg, if_neg h]

theorem reg_of_gpr {s t : State} (h : t.gpr = s.gpr) (r : Slot) : t.reg r = s.reg r := by
  simp only [State.reg, h]

@[simp] theorem reg_setC (s : State) (c : Bool) (q : Slot) : (s.setC c).reg q = s.reg q := rfl
@[simp] theorem reg_setPc (s : State) (a : Word) (q : Slot) : (s.setPc a).reg q = s.reg q := rfl
@[simp] theorem reg_advance (s : State) (n : Word) (q : Slot) : (s.advance n).reg q = s.reg q := rfl
@[simp] theorem reg_storeState (s : State) (a : Word) (w : Width) (v : Word) (q : Slot) : (storeState s a w v).reg q = s.reg q := rfl
@[simp] theorem reg_enterVector (s : State) (v : Byte) (e : Word) (q : Slot) : (s.enterVector v e).reg q = s.reg q := rfl
@[simp] theorem reg_returnFromException (s : State) (q : Slot) : (s.returnFromException).reg q = s.reg q := rfl
@[simp] theorem reg_tick (s : State) (q : Slot) : s.tick.reg q = s.reg q := reg_of_gpr (tick_gpr s) q

theorem spSlot_eq (s : State) : s.spSlot = slotSp s.psr.s := rfl

/-! ### PSR -/

/-- VEC is read back from the word. -/
theorem toWord_vec (p : Psr) : p.toWord.extractLsb' 16 8 = p.vec := by
  apply BitVec.eq_of_getLsbD_eq
  intro i h
  simp only [Psr.toWord, BitVec.getLsbD_extractLsb', h, decide_true, Bool.true_and, BitVec.getLsbD_append]
  rw [if_neg, if_neg, if_neg, if_neg, if_neg, if_neg, if_neg, if_neg, if_neg, if_pos]
  · congr 1; omega
  all_goals omega

/-- What an exception saves, PSR gets back on return: every implemented bit survives the way through a word. -/
theorem ofWord_toWord (p : Psr) (b : Bool) : Psr.ofWord b p.toWord = { p with bm := b && p.bm } := by
  simp only [Psr.ofWord, toWord_vec]
  simp only [Psr.toWord, BitVec.getLsbD_append, Nat.reduceLT, Nat.reduceSub, ↓reduceIte, BitVec.getLsbD_ofBool,
    decide_true, Bool.true_and, Nat.lt_irrefl, Nat.sub_self, zero_lt_one]

end Sys2Proof.Machine
end

