-- ==== Sys2Proof/Laws/Exec.lean ====
section
/-! SUPPORT. What each shared operation can do, once: if it answers a next state, that state satisfies whatever the states
it can answer satisfy. A proof about `exec` cites these and never unfolds a shared operation. -/

namespace Sys2Proof.Machine

/-- If `o` is a next state, that state satisfies `P`. -/
def Ensures (o : Outcome) (P : State → Prop) : Prop := ∀ t, o = .next t → P t

theorem ensures_next {s : State} {P : State → Prop} (h : P s) : Ensures (.next s) P := by
  intro t e; cases e; exact h

theorem ensures_refused {r : Refusal} {P : State → Prop} : Ensures (.refused r) P := by intro t e; cases e

theorem ensures_fault {f : Fault} {P : State → Prop} : Ensures (.fault f) P := by intro t e; cases e

theorem ensures_ite {c : Prop} [Decidable c] {a b : Outcome} {P : State → Prop} (ha : c → Ensures a P)
    (hb : ¬c → Ensures b P) : Ensures (if c then a else b) P := by
  split
  · exact ha ‹_›
  · exact hb ‹_›

/-! ### Finishing -/

theorem ensures_finish {n : Word} {s : State} {P : State → Prop} (h : P (s.advance n)) : Ensures (finish n s) P :=
  ensures_next h

theorem ensures_finishAt {a : Word} {s : State} {P : State → Prop} (h : P (s.setPc a)) : Ensures (finishAt a s) P :=
  ensures_next h

/-! ### Exceptions -/

/-- A vector that is taken leaves the state of the entry with the PC from the vector word (60_exceptions R610). -/
theorem ensures_takeVector {v : Byte} {e : Word} {s : State} {P : State → Prop}
    (h : ∀ w, P ((s.enterVector v e).setPc w)) : Ensures (takeVector v e s) P := by
  unfold takeVector
  dsimp only
  split
  · exact ensures_refused
  · exact ensures_fault
  · exact ensures_next (h _)

theorem ensures_takeException {e : Exc} {s : State} {P : State → Prop}
    (h : ∀ w, P ((s.enterVector (s.exceptionVector e) s.pc).setPc w)) : Ensures (takeException e s) P :=
  ensures_takeVector h

theorem ensures_takeInterrupt {v : Byte} {s : State} {P : State → Prop}
    (h : ∀ w, P ((s.enterVector v s.pc).setPc w)) : Ensures (takeInterrupt v s) P :=
  ensures_ite (fun _ => ensures_refused) (fun _ => ensures_takeVector h)

theorem ensures_readResetVector {s : State} {P : State → Prop}
    (h : ∀ w, P ({ s with resetPhase := .running }.setPc w)) : Ensures (readResetVector s) P := by
  unfold readResetVector
  split
  · exact ensures_refused
  · exact ensures_fault
  · exact ensures_next (h _)

theorem ensures_takeReset {s : State} {P : State → Prop}
    (h : ∀ w, P (s.resetRegisters.setPc w)) : Ensures (takeReset s) P := by
  refine ensures_readResetVector fun w => ?_
  have e : { s.resetRegisters with resetPhase := .running } = s.resetRegisters := by simp only [State.resetRegisters]
  rw [e]
  exact h w

theorem ensures_softwareReset {s : State} {P : State → Prop}
    (hd : s.mode = .debug → P { s with softResets := s.softResets + 1, resetPhase := .onDebugExit })
    (hr : s.mode ≠ .debug → ∀ w, P (({ s with softResets := s.softResets + 1 } : State).resetRegisters.setPc w)) :
    Ensures (softwareReset s) P :=
  ensures_ite (fun h => ensures_next (hd h)) fun h => ensures_takeReset (hr h)

theorem ensures_privileged {s : State} {k : Outcome} {P : State → Prop} (hk : s.psr.s = true → Ensures k P)
    (he : s.psr.s = false → Ensures (takeException .privilege s) P) : Ensures (privileged s k) P :=
  ensures_ite hk (fun h => he (by simpa using h))

theorem ensures_bctmOnly {s : State} {k : Outcome} {P : State → Prop} (hk : s.cfg.hasBctm = true → Ensures k P)
    (he : s.cfg.hasBctm = false → Ensures (takeException .illegal s) P) : Ensures (bctmOnly s k) P :=
  ensures_ite hk (fun h => he (by simpa using h))

theorem ensures_result {α : Type} {r : Result α} {s : State} {k : α → Outcome} {P : State → Prop}
    (hk : ∀ v, r = .done v → Ensures (k v) P) (he : ∀ e, r = .exc e → Ensures (takeException e s) P) :
    Ensures (r.andThen s k) P := by
  unfold Result.andThen
  split
  · exact hk _ rfl
  · exact he _ rfl
  · exact ensures_refused

theorem ensures_xfer {x : Xfer} {k : State → Outcome} {P : State → Prop}
    (hk : ∀ u, x = .done u → Ensures (k u) P) (he : ∀ e u, x = .exc e u → Ensures (takeException e u) P)
    (hi : ∀ v u, x = .interrupted v u → Ensures (takeInterrupt v u) P) : Ensures (x.andThen k) P := by
  unfold Xfer.andThen
  split
  · exact hk _ rfl
  · exact he _ _ rfl
  · exact ensures_refused
  · exact hi _ _ rfl

theorem ensures_withAlignedBase {a : Word} {b : Bool} {s : State} {k : Outcome} {P : State → Prop}
    (hk : Ensures k P) (he : Ensures (takeException .misaligned s) P) : Ensures (withAlignedBase a b s k) P :=
  ensures_ite (fun _ => hk) (fun _ => he)

/-! ### Shapes of register instructions -/

theorem ensures_withReg {s : State} {n : BitVec 5} {k : Slot → Outcome} {P : State → Prop}
    (h : ∀ r, s.slotOf n = some r → Ensures (k r) P) : Ensures (withReg s n k) P := by
  unfold withReg
  split
  · exact h _ ‹_›
  · exact ensures_refused

theorem ensures_alu3 {f : Word → Word → Word} {rz rx ry : BitVec 5} {s : State} {P : State → Prop}
    (h : ∀ z v, s.slotOf rz = some z → P ((s.setReg z v).advance 4)) : Ensures (alu3 f rz rx ry s) P :=
  ensures_withReg fun _ _ => ensures_withReg fun _ _ => ensures_withReg fun z hz => ensures_finish (h z _ hz)

theorem ensures_alu3c {f : Word → Word → Bool → Word × Bool} {rz rx ry : BitVec 5} {s : State} {P : State → Prop}
    (h : ∀ z v c, s.slotOf rz = some z → P (((s.setReg z v).setC c).advance 4)) : Ensures (alu3c f rz rx ry s) P :=
  ensures_withReg fun _ _ => ensures_withReg fun _ _ => ensures_withReg fun z hz => ensures_finish (h z _ _ hz)

theorem ensures_alu2 {f : Word → Word} {rz rx : BitVec 5} {s : State} {P : State → Prop}
    (h : ∀ z v, s.slotOf rz = some z → P ((s.setReg z v).advance 4)) : Ensures (alu2 f rz rx s) P :=
  ensures_withReg fun _ _ => ensures_withReg fun z hz => ensures_finish (h z _ hz)

theorem ensures_alu2c {f : Word → Bool → Word × Bool} {rz rx : BitVec 5} {s : State} {P : State → Prop}
    (h : ∀ z v c, s.slotOf rz = some z → P (((s.setReg z v).setC c).advance 4)) : Ensures (alu2c f rz rx s) P :=
  ensures_withReg fun _ _ => ensures_withReg fun z hz => ensures_finish (h z _ _ hz)

theorem ensures_alu1 {v : Word} {rz : BitVec 5} {s : State} {P : State → Prop}
    (h : ∀ z v, s.slotOf rz = some z → P ((s.setReg z v).advance 4)) : Ensures (alu1 v rz s) P :=
  ensures_withReg fun z hz => ensures_finish (h z _ hz)

theorem ensures_alu2If {c : Bool} {f : Word → Word} {rz rx : BitVec 5} {s : State} {P : State → Prop}
    (h : ∀ z v, s.slotOf rz = some z → P ((s.setReg z v).advance 4)) (h0 : P (s.advance 4)) :
    Ensures (alu2If c f rz rx s) P :=
  ensures_withReg fun _ _ => ensures_withReg fun z hz => by
    cases c
    · exact ensures_finish h0
    · exact ensures_finish (h z _ hz)

theorem ensures_test1 {f : Word → Bool} {rx : BitVec 5} {s : State} {P : State → Prop}
    (h : ∀ c, P ((s.setC c).advance 4)) : Ensures (test1 f rx s) P :=
  ensures_withReg fun _ _ => ensures_finish (h _)

theorem ensures_put16 {z : Slot} {v : Word} {s : State} {P : State → Prop}
    (h : ∀ v, P ((s.setReg z v).advance 2)) : Ensures (put16 z v s) P := ensures_finish (h v)

theorem ensures_put16c {z : Slot} {r : Word × Bool} {s : State} {P : State → Prop}
    (h : ∀ v c, P (((s.setReg z v).setC c).advance 2)) : Ensures (put16c z r s) P := ensures_finish (h _ _)

theorem ensures_alu16 {f : Word → Word → Word} {rz rx : BitVec 4} {s : State} {P : State → Prop}
    (h : ∀ v, P ((s.setReg (slot4 s.psr.s rz) v).advance 2)) : Ensures (alu16 f rz rx s) P := ensures_put16 h

theorem ensures_alu16c {f : Word → Word → Bool → Word × Bool} {rz rx : BitVec 4} {s : State} {P : State → Prop}
    (h : ∀ v c, P (((s.setReg (slot4 s.psr.s rz) v).setC c).advance 2)) : Ensures (alu16c f rz rx s) P :=
  ensures_put16c h

theorem ensures_unary16 {f : Word → Word} {rz rx : BitVec 4} {s : State} {P : State → Prop}
    (h : ∀ v, P ((s.setReg (slot4 s.psr.s rz) v).advance 2)) : Ensures (unary16 f rz rx s) P := ensures_put16 h

theorem ensures_imm16op {f : Word → Word} {rz rx : BitVec 3} {s : State} {P : State → Prop}
    (h : ∀ v, P ((s.setReg (slot3 rz) v).advance 2)) : Ensures (imm16op f rz rx s) P := ensures_put16 h

theorem ensures_test16 {b : Bool} {s : State} {P : State → Prop} (h : ∀ c, P ((s.setC c).advance 2)) :
    Ensures (test16 b s) P := ensures_finish (h b)

theorem ensures_branchIf {k : Nat} {c : Bool} {o : BitVec k} {n : Word} {s : State} {P : State → Prop}
    (ht : P (s.setPc (s.pc + branchOffset o))) (hn : P (s.advance n)) : Ensures (branchIf c o n s) P :=
  ensures_ite (fun _ => ensures_finishAt ht) (fun _ => ensures_finish hn)

/-! ### Accesses -/

/-- A write that is done has stored the value at the effective address, and changed nothing else. -/
theorem writeData_done {m : Bool} {s t : State} {a : Word} {w : Width} {v : Word}
    (h : writeData m s a w v = .done t) :
    ∃ b, effectiveAddress s m a w = some b ∧ t = storeState s b w v := by
  unfold writeData at h
  split at h
  · cases h
  · next b hb =>
    split at h
    · cases h
    · cases h
    · cases h; exact ⟨b, hb, rfl⟩

theorem ensures_load32 {w : Width} {f : Word → Word} {rz rx : BitVec 5} {i : BitVec 12} {s : State} {P : State → Prop}
    (h : ∀ z v, s.slotOf rz = some z → P ((s.setReg z v).advance 4)) (he : ∀ e, Ensures (takeException e s) P) :
    Ensures (load32 w f rz rx i s) P :=
  ensures_withReg fun _ _ => ensures_withReg fun z hz => ensures_result (fun _ _ => ensures_finish (h z _ hz)) (fun e _ => he e)

theorem ensures_load16 {w : Width} {rz : BitVec 3} {a : Word} {s : State} {P : State → Prop}
    (h : ∀ v, P ((s.setReg (slot3 rz) v).advance 2)) (he : ∀ e, Ensures (takeException e s) P) :
    Ensures (load16 w rz a s) P := ensures_result (fun _ _ => ensures_put16 h) (fun e _ => he e)

theorem ensures_store32 {w : Width} {rz rx : BitVec 5} {i : BitVec 12} {s : State} {P : State → Prop}
    (h : ∀ x b v, s.slotOf rx = some x → effectiveAddress s false (s.reg x + scaled i w.shift) w = some b →
      P ((storeState s b w v).advance 4))
    (he : ∀ e, Ensures (takeException e s) P) : Ensures (store32 w rz rx i s) P :=
  ensures_withReg fun x hx => ensures_withReg fun _ _ => ensures_result
    (fun t ht => by obtain ⟨b, hb, rfl⟩ := writeData_done ht; exact ensures_finish (h x b _ hx hb)) (fun e _ => he e)

theorem ensures_store16 {w : Width} {rz : BitVec 3} {a : Word} {s : State} {P : State → Prop}
    (h : ∀ b v, effectiveAddress s false a w = some b → P ((storeState s b w v).advance 2))
    (he : ∀ e, Ensures (takeException e s) P) : Ensures (store16 w rz a s) P :=
  ensures_result (fun t ht => by obtain ⟨b, hb, rfl⟩ := writeData_done ht; exact ensures_finish (h b _ hb))
    (fun e _ => he e)

/-! ### Transfers of several words -/

/-- `u` is `s` but for registers of `l` and the count of free values. -/
def OnlyRegs (l : List Slot) (s u : State) : Prop :=
  ∃ g n, u = { s with gpr := g, freeCount := n } ∧ ∀ r ∉ l, u.reg r = s.reg r

/-- `u` is `s` but for the bytes at the addresses of `l` and the record of stored addresses. -/
def OnlyBytes (l : List Word) (s u : State) : Prop :=
  ∃ m w, u = { s with mem := m, written := w } ∧
    (s.mem.wf → m.wf ∧ ∀ a ∉ l, m.read a = s.mem.read a)

theorem onlyRegs_refl (l : List Slot) (s : State) : OnlyRegs l s s := ⟨s.gpr, s.freeCount, rfl, fun _ _ => rfl⟩

theorem onlyBytes_refl (l : List Word) (s : State) : OnlyBytes l s s := ⟨s.mem, s.written, rfl, fun h => ⟨h, fun _ _ => rfl⟩⟩

/-- What a transfer leaves, however it ends. -/
def Xfer.Leaves (x : Xfer) (P : State → Prop) : Prop :=
  match x with
  | .done u => P u
  | .exc _ u => P u
  | .interrupted _ u => P u
  | .refuse _ => True

/-- A multiple load changes no more than the registers of its list (46_loadstore R445). -/
theorem loadWords_onlyRegs (lost : Option Slot) (l : List (Word × Slot)) :
    ∀ (n : Nat) (s : State), (loadWords lost l n s).Leaves (OnlyRegs (l.map Prod.snd) s) := by
  induction l with
  | nil => intro n s; exact onlyRegs_refl _ s
  | cons p rest ih =>
    intro n s
    obtain ⟨a, r⟩ := p
    have key : ∀ (v : Word) (k : Nat),
        (loadWords lost rest (n + 1) { s.setReg r v with freeCount := k }).Leaves
          (OnlyRegs (((a, r) :: rest).map Prod.snd) s) := by
      intro v k
      have h := ih (n + 1) { s.setReg r v with freeCount := k }
      have lift : ∀ u, OnlyRegs (rest.map Prod.snd) { s.setReg r v with freeCount := k } u →
          OnlyRegs (((a, r) :: rest).map Prod.snd) s u := by
        rintro u ⟨g, m, rfl, hu⟩
        refine ⟨g, m, rfl, fun q hq => ?_⟩
        simp only [List.map_cons, List.mem_cons, not_or] at hq
        rw [hu q hq.2]
        exact reg_setReg_ne s v hq.1
      revert h
      cases loadWords lost rest (n + 1) { s.setReg r v with freeCount := k } <;>
        first | exact lift _ | exact fun h => h
    unfold loadWords
    split
    · exact onlyRegs_refl _ s
    · split
      · exact onlyRegs_refl _ s
      · trivial
      · split
        · exact key _ _
        · exact key _ s.freeCount

/-- A multiple store changes no more than the bytes of its words (46_loadstore R445). -/
theorem storeWords_onlyBytes (split : Bool) (l : List (Word × Word)) :
    ∀ (n : Nat) (s : State),
      (storeWords split l n s).Leaves (OnlyBytes (l.flatMap fun p => byteAddresses p.1 4) s) := by
  induction l with
  | nil => intro n s; exact onlyBytes_refl _ s
  | cons p rest ih =>
    intro n s
    obtain ⟨a, w⟩ := p
    rw [storeWords]
    split
    · exact onlyBytes_refl _ s
    · split
      · exact onlyBytes_refl _ s
      · trivial
      · next t ht =>
        obtain ⟨b, hb, rfl⟩ := writeData_done ht
        have hba : b = a := by
          unfold effectiveAddress at hb
          split at hb
          · exact (Option.some.inj hb).symm
          · simp at hb
        subst hba
        have h := ih (n + 1) (storeState s b .word w)
        have lift : ∀ u, OnlyBytes (rest.flatMap fun p => byteAddresses p.1 4) (storeState s b .word w) u →
            OnlyBytes (((b, w) :: rest).flatMap fun p => byteAddresses p.1 4) s u := by
          rintro u ⟨m, wr, rfl, hu⟩
          refine ⟨m, wr, rfl, fun hwf => ?_⟩
          have h1 := hu (Memory.wf_store _ _ _ _ _ hwf)
          refine ⟨h1.1, fun c hc => ?_⟩
          simp only [List.flatMap_cons, List.mem_append, not_or] at hc
          rw [h1.2 c hc.2]
          exact Memory.read_store_frame _ _ _ .word _ _ hwf hc.1
        revert h
        cases storeWords split rest (n + 1) (storeState s b .word w) <;>
          first | exact lift _ | exact fun h => h

end Sys2Proof.Machine
end

