-- ==== Sys2Proof/Laws/Outcomes.lean ====
section
/-! SUPPORT. The one inversion lemma of `exec`, in two parts: here, the forms a next state can have (`Outcomes`) and, for each
shape in which an instruction runs, that the shape keeps to them; in Laws/ExecCases.lean, that every instruction does.
Every invariant and frame over all instructions follows from it. -/

namespace Sys2Proof.Machine

/-- A state an instruction can leave when it has done part or all of its work on registers and memory: registers outside its
destinations and bytes outside its store targets are as before, and so is everything else but the counts kept by the model. -/
def Partial (i : Instr) (s u : State) : Prop :=
  ∃ g n m w, u = { s with gpr := g, freeCount := n, mem := m, written := w } ∧
    (∀ r ∉ destinations s i, u.reg r = s.reg r) ∧
    (s.mem.wf → m.wf ∧ ∀ a ∉ storeTargets s i, m.read a = s.mem.read a)

/-- Where the PC goes when an instruction completes. -/
def NextPc (s : State) (p : Word) : Prop := p = s.pc + 2 ∨ p = s.pc + 4 ∨ ∃ a, p = a &&& 0xFFFFFFFE#32

/-- The effects only a privileged instruction has. -/
inductive SystemEffect (i : Instr) (s : State) : State → Prop
  | writeCr (x crz sel : BitVec 5) (cr : Cr) (v : Word) (hi : i = .mtcr32 x crz sel)
      (hcr : crOf s.cfg.hasVbr crz sel = some cr) (b : Bool) :
      SystemEffect i s ({ writeCr s v cr with mpuUnsafe := b }.advance 4)
  | reset (x crz sel : BitVec 5) (hi : i = .mtcr32 x crz sel) (t : State) (ht : softwareReset s = .next t) :
      SystemEffect i s t
  | enables (m : BitVec 5) (ee ie : Bool) (hi : i = .psrset32 m ∨ i = .psrclr32 m) :
      SystemEffect i s ({ s with psr := { s.psr with ee := ee, ie := ie } }.advance 4)
  | rte (hi : i = .rte32) : SystemEffect i s s.returnFromException
  | nie (hi : i = .nie16) (u : State) (hu : Partial i s u) :
      SystemEffect i s ({ u with psr := { s.psr with ee := true, ie := true } }.advance 2)
  | nir (hi : i = .nir16) (v w a : Word) :
      SystemEffect i s (({ s with epsr := v, epc := w }.setReg s.spSlot a).returnFromException)
  | lowPower (k : LowPower) (hi : i = .wait32 ∨ i = .doze32 ∨ i = .stop32) :
      SystemEffect i s ({ s with mode := .lowPower k }.advance 4)

/-- The forms of the next state of an instruction. -/
inductive Outcomes (i : Instr) (s : State) : State → Prop
  /-- It completes. -/
  | completes (u : State) (c b : Bool) (p : Word) (hu : Partial i s u) (hc : c = s.psr.c ∨ writesC i = true)
      (hb : b = s.psr.bm ∨ s.cfg.hasBctm = true ∧ (i = .bmset32 ∨ i = .bmclr32)) (hp : NextPc s p) :
      Outcomes i s { u with pc := p, psr := { s.psr with c := c, bm := b } }
  /-- It raises an exception, possibly with transfers already made. -/
  | exception (u : State) (e : Exc) (w : Word) (hu : Partial i s u) :
      Outcomes i s ((u.enterVector (s.exceptionVector e) s.pc).setPc w)
  /-- An interrupt comes in the middle of its transfers. -/
  | interrupt (u : State) (v : Byte) (w : Word) (hu : Partial i s u) (hic : s.psr.ic = true)
      (he : s.interruptsEnabled = true) (hv : 32 ≤ v.toNat) : Outcomes i s ((u.enterVector v s.pc).setPc w)
  /-- BKPT enters debug mode. -/
  | debug (hi : i = .bkpt16) (hd : s.cfg.hasDebug = true) : Outcomes i s { s with mode := .debug }
  /-- It has an effect only a privileged instruction has. -/
  | system (t : State) (hp : isPrivileged i = true) (hs : s.psr.s = true) (ht : SystemEffect i s t) : Outcomes i s t

/-! ### Partial work -/

theorem partial_refl (i : Instr) (s : State) : Partial i s s :=
  ⟨s.gpr, s.freeCount, s.mem, s.written, rfl, fun _ _ => rfl, fun h => ⟨h, fun _ _ => rfl⟩⟩

theorem partial_setReg {i : Instr} {s u : State} (h : Partial i s u) {z : Slot} (hz : z ∈ destinations s i) (v : Word) :
    Partial i s (u.setReg z v) := by
  obtain ⟨g, n, m, w, rfl, hr, hm⟩ := h
  refine ⟨g.set z v, n, m, w, rfl, fun r hn => ?_, hm⟩
  have hz' : r ≠ z := fun e => hn (by rw [e]; exact hz)
  exact (reg_setReg_ne _ v hz').trans (hr r hn)

theorem partial_onlyRegs {i : Instr} {s u : State} {l : List Slot} (h : OnlyRegs l s u)
    (hl : ∀ r ∈ l, r ∈ destinations s i) : Partial i s u := by
  obtain ⟨g, n, rfl, hr⟩ := h
  exact ⟨g, n, s.mem, s.written, rfl, fun r hn => hr r (fun hm => hn (hl r hm)), fun hw => ⟨hw, fun _ _ => rfl⟩⟩

theorem partial_onlyBytes {i : Instr} {s u : State} {l : List Word} (h : OnlyBytes l s u)
    (hl : ∀ a ∈ l, a ∈ storeTargets s i) : Partial i s u := by
  obtain ⟨m, w, rfl, hm⟩ := h
  exact ⟨s.gpr, s.freeCount, m, w, rfl, fun _ _ => rfl,
    fun hw => ⟨(hm hw).1, fun a ha => (hm hw).2 a (fun hx => ha (hl a hx))⟩⟩

theorem partial_store {i : Instr} {s : State} {b : Word} {w : Width} {v : Word}
    (hl : ∀ a ∈ byteAddresses b w.bytes, a ∈ storeTargets s i) : Partial i s (storeState s b w v) :=
  ⟨s.gpr, s.freeCount, _, _, rfl, fun _ _ => rfl,
    fun hw => ⟨Memory.wf_store _ _ _ _ _ hw, fun a ha => Memory.read_store_frame _ _ _ _ _ _ hw fun hx => ha (hl a hx)⟩⟩

theorem partial_psr {i : Instr} {s u : State} (h : Partial i s u) : u.psr = s.psr := by
  obtain ⟨_, _, _, _, rfl, _⟩ := h; rfl

theorem partial_pc {i : Instr} {s u : State} (h : Partial i s u) : u.pc = s.pc := by
  obtain ⟨_, _, _, _, rfl, _⟩ := h; rfl

/-! ### Completing -/

/-- The instruction completes with C and BM as they were. -/
theorem outcomes_pc {i : Instr} {s u : State} {p : Word} (hu : Partial i s u) (hp : NextPc s p) :
    Outcomes i s { u with pc := p } := by
  have h := Outcomes.completes u s.psr.c s.psr.bm p hu (.inl rfl) (.inl rfl) hp
  rwa [show { s.psr with c := s.psr.c, bm := s.psr.bm } = u.psr from (partial_psr hu).symm] at h

theorem outcomes_finish2 {i : Instr} {s u : State} (hu : Partial i s u) : Ensures (finish 2 u) (Outcomes i s) := by
  refine ensures_finish ?_
  have h := outcomes_pc hu (.inl rfl)
  rwa [← partial_pc hu] at h

theorem outcomes_finish4 {i : Instr} {s u : State} (hu : Partial i s u) : Ensures (finish 4 u) (Outcomes i s) := by
  refine ensures_finish ?_
  have h := outcomes_pc hu (.inr (.inl rfl))
  rwa [← partial_pc hu] at h

theorem outcomes_finishAt {i : Instr} {s u : State} {a : Word} (hu : Partial i s u) :
    Ensures (finishAt a u) (Outcomes i s) :=
  ensures_finishAt (outcomes_pc hu (.inr (.inr ⟨a, rfl⟩)))

/-- The instruction completes and writes C. -/
theorem outcomes_setC {i : Instr} {s u : State} {c : Bool} {p : Word} (hu : Partial i s u) (hc : writesC i = true)
    (hp : NextPc s p) : Outcomes i s { u.setC c with pc := p } := by
  have h := Outcomes.completes u c s.psr.bm p hu (.inr hc) (.inl rfl) hp
  rw [← partial_psr hu] at h
  exact h

theorem outcomes_exc {i : Instr} {s u : State} (hu : Partial i s u) (e : Exc) :
    Ensures (takeException e u) (Outcomes i s) := by
  refine ensures_takeException fun w => ?_
  have h := Outcomes.exception u e w hu
  have he : u.exceptionVector e = s.exceptionVector e := by unfold State.exceptionVector; rw [partial_psr hu]
  rwa [he, partial_pc hu]

theorem outcomes_excSelf {i : Instr} {s : State} (e : Exc) : Ensures (takeException e s) (Outcomes i s) :=
  outcomes_exc (partial_refl i s) e

theorem outcomes_interrupt {i : Instr} {s u : State} (hu : Partial i s u) {v : Byte} (hic : s.psr.ic = true)
    (he : s.interruptsEnabled = true) : Ensures (takeInterrupt v u) (Outcomes i s) := by
  refine ensures_ite (fun _ => ensures_refused) fun hv => ensures_takeVector fun w => ?_
  have h := Outcomes.interrupt u v w hu hic he (by omega)
  rwa [partial_pc hu]

/-! ### Shapes -/

section Shapes

variable {i : Instr} {s : State}

theorem outcomes_alu3 {f : Word → Word → Word} {rz rx ry : BitVec 5} (hd : destinations s i = (s.slotOf rz).toList) :
    Ensures (alu3 f rz rx ry s) (Outcomes i s) :=
  ensures_alu3 fun z v hz => outcomes_finish4 (partial_setReg (partial_refl i s) (by simp [hd, hz]) v) _ rfl

theorem outcomes_alu3c {f : Word → Word → Bool → Word × Bool} {rz rx ry : BitVec 5}
    (hd : destinations s i = (s.slotOf rz).toList) (hc : writesC i = true) :
    Ensures (alu3c f rz rx ry s) (Outcomes i s) :=
  ensures_alu3c fun z v _ hz =>
    outcomes_setC (partial_setReg (partial_refl i s) (by simp [hd, hz]) v) hc (.inr (.inl rfl))

theorem outcomes_alu2 {f : Word → Word} {rz rx : BitVec 5} (hd : destinations s i = (s.slotOf rz).toList) :
    Ensures (alu2 f rz rx s) (Outcomes i s) :=
  ensures_alu2 fun z v hz => outcomes_finish4 (partial_setReg (partial_refl i s) (by simp [hd, hz]) v) _ rfl

theorem outcomes_alu2c {f : Word → Bool → Word × Bool} {rz rx : BitVec 5} (hd : destinations s i = (s.slotOf rz).toList)
    (hc : writesC i = true) : Ensures (alu2c f rz rx s) (Outcomes i s) :=
  ensures_alu2c fun z v _ hz =>
    outcomes_setC (partial_setReg (partial_refl i s) (by simp [hd, hz]) v) hc (.inr (.inl rfl))

theorem outcomes_alu1 {v : Word} {rz : BitVec 5} (hd : destinations s i = (s.slotOf rz).toList) :
    Ensures (alu1 v rz s) (Outcomes i s) :=
  ensures_alu1 fun z v hz => outcomes_finish4 (partial_setReg (partial_refl i s) (by simp [hd, hz]) v) _ rfl

theorem outcomes_alu2If {c : Bool} {f : Word → Word} {rz rx : BitVec 5} (hd : destinations s i = (s.slotOf rz).toList) :
    Ensures (alu2If c f rz rx s) (Outcomes i s) :=
  ensures_alu2If
    (fun z v hz => outcomes_finish4 (partial_setReg (partial_refl i s) (by simp [hd, hz]) v) _ rfl)
    (outcomes_finish4 (partial_refl i s) _ rfl)

theorem outcomes_test1 {f : Word → Bool} {rx : BitVec 5} (hc : writesC i = true) :
    Ensures (test1 f rx s) (Outcomes i s) :=
  ensures_test1 fun _ => outcomes_setC (partial_refl i s) hc (.inr (.inl rfl))

theorem outcomes_put16 {z : Slot} {v : Word} (hz : z ∈ destinations s i) : Ensures (put16 z v s) (Outcomes i s) :=
  outcomes_finish2 (partial_setReg (partial_refl i s) hz v)

theorem outcomes_put16c {z : Slot} {r : Word × Bool} (hz : z ∈ destinations s i) (hc : writesC i = true) :
    Ensures (put16c z r s) (Outcomes i s) :=
  ensures_put16c fun v _ => outcomes_setC (partial_setReg (partial_refl i s) hz v) hc (.inl rfl)

theorem outcomes_test16 {b : Bool} (hc : writesC i = true) : Ensures (test16 b s) (Outcomes i s) :=
  ensures_test16 fun _ => outcomes_setC (partial_refl i s) hc (.inl rfl)

theorem outcomes_branchIf {k : Nat} {c : Bool} {o : BitVec k} {n : Word} (hn : n = 2 ∨ n = 4) :
    Ensures (branchIf c o n s) (Outcomes i s) :=
  ensures_branchIf (outcomes_finishAt (partial_refl i s) _ rfl)
    (by rcases hn with rfl | rfl
        · exact outcomes_finish2 (partial_refl i s) _ rfl
        · exact outcomes_finish4 (partial_refl i s) _ rfl)

theorem outcomes_load32 {w : Width} {f : Word → Word} {rz rx : BitVec 5} {o : BitVec 12}
    (hd : destinations s i = (s.slotOf rz).toList) : Ensures (load32 w f rz rx o s) (Outcomes i s) :=
  ensures_load32 (fun z v hz => outcomes_finish4 (partial_setReg (partial_refl i s) (by simp [hd, hz]) v) _ rfl)
    outcomes_excSelf

theorem outcomes_load16 {w : Width} {rz : BitVec 3} {a : Word} (hz : slot3 rz ∈ destinations s i) :
    Ensures (load16 w rz a s) (Outcomes i s) :=
  ensures_load16 (fun v => outcomes_finish2 (partial_setReg (partial_refl i s) hz v) _ rfl) outcomes_excSelf

theorem outcomes_store32 {w : Width} {rz rx : BitVec 5} {o : BitVec 12}
    (hs : storeTargets s i = ((s.slotOf rx).map fun x => dataBytes s (s.reg x + scaled o w.shift) w).getD []) :
    Ensures (store32 w rz rx o s) (Outcomes i s) :=
  ensures_store32
    (fun x b v hx hb => outcomes_finish4 (partial_store (by simp [hs, hx, dataBytes, hb])) _ rfl) outcomes_excSelf

theorem outcomes_store16 {w : Width} {rz : BitVec 3} {a : Word} (hs : storeTargets s i = dataBytes s a w) :
    Ensures (store16 w rz a s) (Outcomes i s) :=
  ensures_store16 (fun b v hb => outcomes_finish2 (partial_store (by simp [hs, dataBytes, hb])) _ rfl) outcomes_excSelf

/-- An interrupt in the middle of a transfer was enabled when the instruction began (60_exceptions R633). -/
theorem interruptAfter_some {u : State} {n : Nat} {v : Byte} (h : u.interruptAfter n = some v) :
    u.psr.ic = true ∧ u.interruptsEnabled = true := by
  unfold State.interruptAfter at h
  split at h
  · next hc => simpa only [Bool.and_eq_true] using hc
  · cases h

theorem loadWords_interrupted (lost : Option Slot) (l : List (Word × Slot)) : ∀ (n : Nat) (t : State) (v : Byte) (u : State),
    loadWords lost l n t = .interrupted v u → t.psr.ic = true ∧ t.interruptsEnabled = true := by
  induction l with
  | nil => intro n t v u h; cases h
  | cons p rest ih =>
    intro n t v u h
    rw [loadWords] at h
    split at h
    · exact interruptAfter_some ‹_›
    · split at h
      · cases h
      · cases h
      · split at h
        · exact ih _ { t.setReg _ _ with freeCount := t.freeCount + 1 } v u h
        · exact ih _ (t.setReg _ _) v u h

theorem storeWords_interrupted (sp : Bool) (l : List (Word × Word)) : ∀ (n : Nat) (t : State) (v : Byte) (u : State),
    storeWords sp l n t = .interrupted v u → t.psr.ic = true ∧ t.interruptsEnabled = true := by
  induction l with
  | nil => intro n t v u h; cases h
  | cons p rest ih =>
    intro n t v u h
    rw [storeWords] at h
    split at h
    · next hv =>
      split at hv
      · exact interruptAfter_some hv
      · cases hv
    · split at h
      · cases h
      · cases h
      · next t' ht =>
        obtain ⟨b, _, rfl⟩ := writeData_done ht
        exact ih _ (storeState t b .word _) v u h

theorem outcomes_loadWords {lost : Option Slot} {l : List (Word × Slot)} {k : State → Outcome}
    (hl : ∀ r ∈ l.map Prod.snd, r ∈ destinations s i) (hk : ∀ u, Partial i s u → Ensures (k u) (Outcomes i s)) :
    Ensures ((loadWords lost l 0 s).andThen k) (Outcomes i s) := by
  have h := loadWords_onlyRegs lost l 0 s
  refine ensures_xfer (fun u hu => ?_) (fun e u hu => ?_) (fun v u hu => ?_)
  all_goals rw [hu] at h; have hp := partial_onlyRegs h hl
  · exact hk u hp
  · exact outcomes_exc hp e
  · have hi := loadWords_interrupted _ _ _ _ _ _ hu
    exact outcomes_interrupt hp hi.1 hi.2

theorem outcomes_storeWords {sp : Bool} {l : List (Word × Word)} {k : State → Outcome}
    (hl : ∀ a ∈ l.flatMap fun p => byteAddresses p.1 4, a ∈ storeTargets s i)
    (hk : ∀ u, Partial i s u → Ensures (k u) (Outcomes i s)) :
    Ensures ((storeWords sp l 0 s).andThen k) (Outcomes i s) := by
  have h := storeWords_onlyBytes sp l 0 s
  refine ensures_xfer (fun u hu => ?_) (fun e u hu => ?_) (fun v u hu => ?_)
  all_goals rw [hu] at h; have hp := partial_onlyBytes h hl
  · exact hk u hp
  · exact outcomes_exc hp e
  · have hi := storeWords_interrupted _ _ _ _ _ _ hu
    exact outcomes_interrupt hp hi.1 hi.2

theorem outcomes_aligned {a : Word} {b : Bool} {k : Outcome} (hk : Ensures k (Outcomes i s)) :
    Ensures (withAlignedBase a b s k) (Outcomes i s) := ensures_withAlignedBase hk (outcomes_excSelf _)

theorem outcomes_bctm {k : Outcome} (hk : s.cfg.hasBctm = true → Ensures k (Outcomes i s)) :
    Ensures (bctmOnly s k) (Outcomes i s) := ensures_bctmOnly hk (fun _ => outcomes_excSelf _)

theorem outcomes_privileged {k : Outcome} (hk : s.psr.s = true → Ensures k (Outcomes i s)) :
    Ensures (privileged s k) (Outcomes i s) := ensures_privileged hk (fun _ => outcomes_excSelf _)

theorem outcomes_stackOverflow (hl : slotLr ∈ destinations s i) : Ensures (stackOverflow s) (Outcomes i s) :=
  outcomes_finishAt (partial_setReg (partial_refl i s) hl _)

theorem outcomes_bpush {w : Width} {rz : BitVec 3} (hd : destinations s i = [slotBsp, slotLr])
    (hs : storeTargets s i = dataBytes s (s.reg slotBsp) w) : Ensures (bpush w rz s) (Outcomes i s) :=
  outcomes_bctm fun _ => ensures_ite (fun _ => outcomes_stackOverflow (by simp [hd])) fun _ =>
    ensures_result
      (fun t ht => by
        obtain ⟨b, hb, rfl⟩ := writeData_done ht
        exact outcomes_finish2 (partial_setReg (partial_store (by simp [hs, dataBytes, hb])) (by simp [hd]) _))
      (fun e _ => outcomes_excSelf e)

theorem outcomes_bpop {w : Width} {rz : BitVec 3} (hd : destinations s i = [slot3 rz, slotBsp, slotLr]) :
    Ensures (bpop w rz s) (Outcomes i s) :=
  outcomes_bctm fun _ => ensures_ite (fun _ => outcomes_stackOverflow (by simp [hd])) fun _ =>
    ensures_result
      (fun v _ => outcomes_finish2
        (partial_setReg (partial_setReg (partial_refl i s) (by simp [hd]) v) (by simp [hd]) _))
      (fun e _ => outcomes_excSelf e)

theorem wordsFrom_snd {α : Type} (a : Word) (l : List α) : (wordsFrom a l).map Prod.snd = l := by
  induction l generalizing a with
  | nil => rfl
  | cons x l ih => simp [wordsFrom, ih]

theorem byteAddresses_append (a : Word) (m n : Nat) :
    byteAddresses a (m + n) = byteAddresses a m ++ byteAddresses (a + BitVec.ofNat 32 m) n := by
  induction m generalizing a with
  | zero => simp [byteAddresses]
  | succ m ih =>
    rw [Nat.succ_add, byteAddresses, byteAddresses, ih (a + 1), List.cons_append, BitVec.add_assoc]
    congr 4
    apply BitVec.eq_of_toNat_eq
    simp [BitVec.toNat_add, Nat.add_comm]

/-- The bytes of words ascending from `a` are the bytes from `a` on. -/
theorem wordsFrom_bytes {α : Type} (a : Word) (l : List α) :
    (wordsFrom a l).flatMap (fun p => byteAddresses p.1 4) = wordBytes a l.length := by
  induction l generalizing a with
  | nil => rfl
  | cons x l ih =>
    rw [wordsFrom, List.flatMap_cons, ih, wordBytes, wordBytes, List.length_cons,
      show 4 * (l.length + 1) = 4 + 4 * l.length by omega, byteAddresses_append]
    rfl

theorem outcomes_pushList {l : List Slot} (hd : s.spSlot ∈ destinations s i)
    (hs : storeTargets s i = wordBytes (s.reg s.spSlot - BitVec.ofNat 32 (4 * l.length)) l.length) :
    Ensures (pushList l s) (Outcomes i s) := by
  refine outcomes_aligned (outcomes_storeWords (fun a ha => ?_)
    fun u hu => outcomes_finish2 (partial_setReg hu hd _))
  have h := wordsFrom_bytes (s.reg s.spSlot - BitVec.ofNat 32 (4 * l.length)) (l.map s.reg)
  rw [List.length_map] at h
  rw [hs, ← h]
  rw [List.mem_flatMap] at ha ⊢
  exact ha.imp fun p hp => ⟨List.mem_reverse.mp hp.1, hp.2⟩

theorem outcomes_popList {l : List Slot} {k : State → Outcome} (hd : s.spSlot ∈ destinations s i)
    (hl : ∀ r ∈ l, r ∈ destinations s i) (hk : ∀ u, Partial i s u → Ensures (k u) (Outcomes i s)) :
    Ensures (popList l s k) (Outcomes i s) :=
  outcomes_aligned (outcomes_loadWords (by rw [wordsFrom_snd]; exact hl) fun u hu => hk _ (partial_setReg hu hd _))

end Shapes

end Sys2Proof.Machine
end

