-- ==== Sys2Proof/Laws/ExecCases.lean ====
section
/-! SUPPORT. Every instruction keeps to the forms of `Outcomes`: the inversion lemma of `exec`, one lemma per instruction
and their union. -/

-- One thread for the file: its many short theorems would otherwise start a thread each.
set_option Elab.async false

namespace Sys2Proof.Machine

theorem ldmList_length {b : Bool} {ry n : BitVec 5} {l : List Slot} (h : ldmList b ry n = some l) :
    l.length = n.toNat + 1 := by
  unfold ldmList at h
  split at h
  · cases h; simp
  · cases h

theorem nie_bytes (s : State) (a : Word)
    (h : a ∈ [(s.reg s.spSlot - 4, s.epc), (s.reg s.spSlot - 8, s.epsr)].flatMap fun p => byteAddresses p.1 4) :
    a ∈ storeTargets s .nie16 := by
  have e : s.reg s.spSlot - 8 + BitVec.ofNat 32 4 = s.reg s.spSlot - 4 := by bv_omega
  show a ∈ byteAddresses (s.reg s.spSlot - 8) (4 + 4)
  rw [byteAddresses_append, e, List.mem_append]
  simpa [or_comm] using h

theorem outcomes_nie {s u : State} (hs : s.psr.s = true) (hu : Partial .nie16 s u) :
    Ensures (finish 2 { u.setReg s.spSlot (s.reg s.spSlot - 8) with psr := { u.psr with ee := true, ie := true } })
      (Outcomes .nie16 s) := by
  refine ensures_finish (.system _ rfl hs ?_)
  have h := SystemEffect.nie rfl _ (partial_setReg hu (z := s.spSlot) (by simp [destinations]) (s.reg s.spSlot - 8))
  rw [← partial_psr hu] at h
  exact h

theorem outcomes_setBm {i : Instr} {s : State} {b : Bool} (hb : s.cfg.hasBctm = true) (hi : i = .bmset32 ∨ i = .bmclr32) :
    Outcomes i s ({ s with psr := { s.psr with bm := b } }.advance 4) :=
  .completes s s.psr.c b (s.pc + 4) (partial_refl i s) (.inl rfl) (.inr ⟨hb, hi⟩) (.inr (.inl rfl))

theorem outcomes_addu32 (rz : BitVec 5) (rx : BitVec 5) (ry : BitVec 5) (s : State) :
    Ensures (exec (.addu32 rz rx ry) s) (Outcomes (.addu32 rz rx ry) s) := by
    unfold exec execAddu32
    refine outcomes_alu3 (i := .addu32 rz rx ry) (s := s) ?_
    rfl

theorem outcomes_addc32 (rz : BitVec 5) (rx : BitVec 5) (ry : BitVec 5) (s : State) :
    Ensures (exec (.addc32 rz rx ry) s) (Outcomes (.addc32 rz rx ry) s) := by
    exact outcomes_alu3c (i := .addc32 rz rx ry) (s := s) rfl rfl

theorem outcomes_subu32 (rz : BitVec 5) (rx : BitVec 5) (ry : BitVec 5) (s : State) :
    Ensures (exec (.subu32 rz rx ry) s) (Outcomes (.subu32 rz rx ry) s) := by
    unfold exec execSubu32
    refine outcomes_alu3 (i := .subu32 rz rx ry) (s := s) ?_
    rfl

theorem outcomes_subc32 (rz : BitVec 5) (rx : BitVec 5) (ry : BitVec 5) (s : State) :
    Ensures (exec (.subc32 rz rx ry) s) (Outcomes (.subc32 rz rx ry) s) := by
    exact outcomes_alu3c (i := .subc32 rz rx ry) (s := s) rfl rfl

theorem outcomes_mvc32 (rz : BitVec 5) (s : State) :
    Ensures (exec (.mvc32 rz) s) (Outcomes (.mvc32 rz) s) := by
    exact outcomes_alu1 (i := .mvc32 rz) (s := s) rfl

theorem outcomes_ixh32 (rz : BitVec 5) (rx : BitVec 5) (ry : BitVec 5) (s : State) :
    Ensures (exec (.ixh32 rz rx ry) s) (Outcomes (.ixh32 rz rx ry) s) := by
    unfold exec execIxh32
    refine outcomes_alu3 (i := .ixh32 rz rx ry) (s := s) ?_
    rfl

theorem outcomes_ixw32 (rz : BitVec 5) (rx : BitVec 5) (ry : BitVec 5) (s : State) :
    Ensures (exec (.ixw32 rz rx ry) s) (Outcomes (.ixw32 rz rx ry) s) := by
    unfold exec execIxw32
    refine outcomes_alu3 (i := .ixw32 rz rx ry) (s := s) ?_
    rfl

theorem outcomes_incf32 (rz : BitVec 5) (rx : BitVec 5) (imm5 : BitVec 5) (s : State) :
    Ensures (exec (.incf32 rz rx imm5) s) (Outcomes (.incf32 rz rx imm5) s) := by
    unfold exec execIncf32
    refine outcomes_alu2If (i := .incf32 rz rx imm5) (s := s) ?_
    rfl

theorem outcomes_inct32 (rz : BitVec 5) (rx : BitVec 5) (imm5 : BitVec 5) (s : State) :
    Ensures (exec (.inct32 rz rx imm5) s) (Outcomes (.inct32 rz rx imm5) s) := by
    unfold exec execInct32
    refine outcomes_alu2If (i := .inct32 rz rx imm5) (s := s) ?_
    rfl

theorem outcomes_decf32 (rz : BitVec 5) (rx : BitVec 5) (imm5 : BitVec 5) (s : State) :
    Ensures (exec (.decf32 rz rx imm5) s) (Outcomes (.decf32 rz rx imm5) s) := by
    unfold exec execDecf32
    refine outcomes_alu2If (i := .decf32 rz rx imm5) (s := s) ?_
    rfl

theorem outcomes_dect32 (rz : BitVec 5) (rx : BitVec 5) (imm5 : BitVec 5) (s : State) :
    Ensures (exec (.dect32 rz rx imm5) s) (Outcomes (.dect32 rz rx imm5) s) := by
    unfold exec execDect32
    refine outcomes_alu2If (i := .dect32 rz rx imm5) (s := s) ?_
    rfl

theorem outcomes_and32 (rz : BitVec 5) (rx : BitVec 5) (ry : BitVec 5) (s : State) :
    Ensures (exec (.and32 rz rx ry) s) (Outcomes (.and32 rz rx ry) s) := by
    unfold exec execAnd32
    refine outcomes_alu3 (i := .and32 rz rx ry) (s := s) ?_
    rfl

theorem outcomes_andn32 (rz : BitVec 5) (rx : BitVec 5) (ry : BitVec 5) (s : State) :
    Ensures (exec (.andn32 rz rx ry) s) (Outcomes (.andn32 rz rx ry) s) := by
    unfold exec execAndn32
    refine outcomes_alu3 (i := .andn32 rz rx ry) (s := s) ?_
    rfl

theorem outcomes_or32 (rz : BitVec 5) (rx : BitVec 5) (ry : BitVec 5) (s : State) :
    Ensures (exec (.or32 rz rx ry) s) (Outcomes (.or32 rz rx ry) s) := by
    unfold exec execOr32
    refine outcomes_alu3 (i := .or32 rz rx ry) (s := s) ?_
    rfl

theorem outcomes_xor32 (rz : BitVec 5) (rx : BitVec 5) (ry : BitVec 5) (s : State) :
    Ensures (exec (.xor32 rz rx ry) s) (Outcomes (.xor32 rz rx ry) s) := by
    unfold exec execXor32
    refine outcomes_alu3 (i := .xor32 rz rx ry) (s := s) ?_
    rfl

theorem outcomes_nor32 (rz : BitVec 5) (rx : BitVec 5) (ry : BitVec 5) (s : State) :
    Ensures (exec (.nor32 rz rx ry) s) (Outcomes (.nor32 rz rx ry) s) := by
    unfold exec execNor32
    refine outcomes_alu3 (i := .nor32 rz rx ry) (s := s) ?_
    rfl

theorem outcomes_bclri32 (rz : BitVec 5) (rx : BitVec 5) (imm5 : BitVec 5) (s : State) :
    Ensures (exec (.bclri32 rz rx imm5) s) (Outcomes (.bclri32 rz rx imm5) s) := by
    unfold exec execBclri32
    refine outcomes_alu2 (i := .bclri32 rz rx imm5) (s := s) ?_
    rfl

theorem outcomes_bseti32 (rz : BitVec 5) (rx : BitVec 5) (imm5 : BitVec 5) (s : State) :
    Ensures (exec (.bseti32 rz rx imm5) s) (Outcomes (.bseti32 rz rx imm5) s) := by
    unfold exec execBseti32
    refine outcomes_alu2 (i := .bseti32 rz rx imm5) (s := s) ?_
    rfl

theorem outcomes_btsti32 (rx : BitVec 5) (imm5 : BitVec 5) (s : State) :
    Ensures (exec (.btsti32 rx imm5) s) (Outcomes (.btsti32 rx imm5) s) := by
    unfold exec execBtsti32
    refine outcomes_test1 (i := .btsti32 rx imm5) (s := s) ?_
    rfl

theorem outcomes_lsl32 (rz : BitVec 5) (rx : BitVec 5) (ry : BitVec 5) (s : State) :
    Ensures (exec (.lsl32 rz rx ry) s) (Outcomes (.lsl32 rz rx ry) s) := by
    unfold exec execLsl32
    refine outcomes_alu3 (i := .lsl32 rz rx ry) (s := s) ?_
    rfl

theorem outcomes_lsr32 (rz : BitVec 5) (rx : BitVec 5) (ry : BitVec 5) (s : State) :
    Ensures (exec (.lsr32 rz rx ry) s) (Outcomes (.lsr32 rz rx ry) s) := by
    unfold exec execLsr32
    refine outcomes_alu3 (i := .lsr32 rz rx ry) (s := s) ?_
    rfl

theorem outcomes_asr32 (rz : BitVec 5) (rx : BitVec 5) (ry : BitVec 5) (s : State) :
    Ensures (exec (.asr32 rz rx ry) s) (Outcomes (.asr32 rz rx ry) s) := by
    unfold exec execAsr32
    refine outcomes_alu3 (i := .asr32 rz rx ry) (s := s) ?_
    rfl

theorem outcomes_rotl32 (rz : BitVec 5) (rx : BitVec 5) (ry : BitVec 5) (s : State) :
    Ensures (exec (.rotl32 rz rx ry) s) (Outcomes (.rotl32 rz rx ry) s) := by
    unfold exec execRotl32
    refine outcomes_alu3 (i := .rotl32 rz rx ry) (s := s) ?_
    rfl

theorem outcomes_lsli32 (rz : BitVec 5) (rx : BitVec 5) (imm5 : BitVec 5) (s : State) :
    Ensures (exec (.lsli32 rz rx imm5) s) (Outcomes (.lsli32 rz rx imm5) s) := by
    unfold exec execLsli32
    refine outcomes_alu2 (i := .lsli32 rz rx imm5) (s := s) ?_
    rfl

theorem outcomes_lsri32 (rz : BitVec 5) (rx : BitVec 5) (imm5 : BitVec 5) (s : State) :
    Ensures (exec (.lsri32 rz rx imm5) s) (Outcomes (.lsri32 rz rx imm5) s) := by
    unfold exec execLsri32
    refine outcomes_alu2 (i := .lsri32 rz rx imm5) (s := s) ?_
    rfl

theorem outcomes_asri32 (rz : BitVec 5) (rx : BitVec 5) (imm5 : BitVec 5) (s : State) :
    Ensures (exec (.asri32 rz rx imm5) s) (Outcomes (.asri32 rz rx imm5) s) := by
    unfold exec execAsri32
    refine outcomes_alu2 (i := .asri32 rz rx imm5) (s := s) ?_
    rfl

theorem outcomes_rotli32 (rz : BitVec 5) (rx : BitVec 5) (imm5 : BitVec 5) (s : State) :
    Ensures (exec (.rotli32 rz rx imm5) s) (Outcomes (.rotli32 rz rx imm5) s) := by
    unfold exec execRotli32
    refine outcomes_alu2 (i := .rotli32 rz rx imm5) (s := s) ?_
    rfl

theorem outcomes_lslc32 (rz : BitVec 5) (rx : BitVec 5) (imm5 : BitVec 5) (s : State) :
    Ensures (exec (.lslc32 rz rx imm5) s) (Outcomes (.lslc32 rz rx imm5) s) := by
    unfold exec execLslc32
    refine outcomes_alu2c (i := .lslc32 rz rx imm5) (s := s) ?_ ?_
    · rfl
    · rfl

theorem outcomes_lsrc32 (rz : BitVec 5) (rx : BitVec 5) (imm5 : BitVec 5) (s : State) :
    Ensures (exec (.lsrc32 rz rx imm5) s) (Outcomes (.lsrc32 rz rx imm5) s) := by
    unfold exec execLsrc32
    refine outcomes_alu2c (i := .lsrc32 rz rx imm5) (s := s) ?_ ?_
    · rfl
    · rfl

theorem outcomes_asrc32 (rz : BitVec 5) (rx : BitVec 5) (imm5 : BitVec 5) (s : State) :
    Ensures (exec (.asrc32 rz rx imm5) s) (Outcomes (.asrc32 rz rx imm5) s) := by
    unfold exec execAsrc32
    refine outcomes_alu2c (i := .asrc32 rz rx imm5) (s := s) ?_ ?_
    · rfl
    · rfl

theorem outcomes_xsr32 (rz : BitVec 5) (rx : BitVec 5) (imm5 : BitVec 5) (s : State) :
    Ensures (exec (.xsr32 rz rx imm5) s) (Outcomes (.xsr32 rz rx imm5) s) := by
    unfold exec execXsr32
    refine outcomes_alu2c (i := .xsr32 rz rx imm5) (s := s) ?_ ?_
    · rfl
    · rfl

theorem outcomes_bmaski32 (rz : BitVec 5) (imm5 : BitVec 5) (s : State) :
    Ensures (exec (.bmaski32 rz imm5) s) (Outcomes (.bmaski32 rz imm5) s) := by
    exact ensures_ite (fun _ => ensures_refused) fun _ => outcomes_alu1 rfl

theorem outcomes_xtrb0 (rz : BitVec 5) (rx : BitVec 5) (s : State) :
    Ensures (exec (.xtrb0 rz rx) s) (Outcomes (.xtrb0 rz rx) s) := by
    unfold exec execXtrb0
    refine outcomes_alu2c (i := .xtrb0 rz rx) (s := s) ?_ ?_
    · rfl
    · rfl

theorem outcomes_xtrb1 (rz : BitVec 5) (rx : BitVec 5) (s : State) :
    Ensures (exec (.xtrb1 rz rx) s) (Outcomes (.xtrb1 rz rx) s) := by
    unfold exec execXtrb1
    refine outcomes_alu2c (i := .xtrb1 rz rx) (s := s) ?_ ?_
    · rfl
    · rfl

theorem outcomes_xtrb2 (rz : BitVec 5) (rx : BitVec 5) (s : State) :
    Ensures (exec (.xtrb2 rz rx) s) (Outcomes (.xtrb2 rz rx) s) := by
    unfold exec execXtrb2
    refine outcomes_alu2c (i := .xtrb2 rz rx) (s := s) ?_ ?_
    · rfl
    · rfl

theorem outcomes_xtrb3 (rz : BitVec 5) (rx : BitVec 5) (s : State) :
    Ensures (exec (.xtrb3 rz rx) s) (Outcomes (.xtrb3 rz rx) s) := by
    unfold exec execXtrb3
    refine outcomes_alu2c (i := .xtrb3 rz rx) (s := s) ?_ ?_
    · rfl
    · rfl

theorem outcomes_ff0 (rz : BitVec 5) (rx : BitVec 5) (s : State) :
    Ensures (exec (.ff0 rz rx) s) (Outcomes (.ff0 rz rx) s) := by
    unfold exec execFf0
    refine outcomes_alu2 (i := .ff0 rz rx) (s := s) ?_
    rfl

theorem outcomes_ff1 (rz : BitVec 5) (rx : BitVec 5) (s : State) :
    Ensures (exec (.ff1 rz rx) s) (Outcomes (.ff1 rz rx) s) := by
    unfold exec execFf1
    refine outcomes_alu2 (i := .ff1 rz rx) (s := s) ?_
    rfl

theorem outcomes_mult32 (rz : BitVec 5) (rx : BitVec 5) (ry : BitVec 5) (s : State) :
    Ensures (exec (.mult32 rz rx ry) s) (Outcomes (.mult32 rz rx ry) s) := by
    unfold exec execMult32
    refine outcomes_alu3 (i := .mult32 rz rx ry) (s := s) ?_
    rfl

theorem outcomes_addi32 (rz : BitVec 5) (rx : BitVec 5) (imm12 : BitVec 12) (s : State) :
    Ensures (exec (.addi32 rz rx imm12) s) (Outcomes (.addi32 rz rx imm12) s) := by
    unfold exec execAddi32
    refine outcomes_alu2 (i := .addi32 rz rx imm12) (s := s) ?_
    rfl

theorem outcomes_subi32 (rz : BitVec 5) (rx : BitVec 5) (imm12 : BitVec 12) (s : State) :
    Ensures (exec (.subi32 rz rx imm12) s) (Outcomes (.subi32 rz rx imm12) s) := by
    unfold exec execSubi32
    refine outcomes_alu2 (i := .subi32 rz rx imm12) (s := s) ?_
    rfl

theorem outcomes_andi32 (rz : BitVec 5) (rx : BitVec 5) (imm12 : BitVec 12) (s : State) :
    Ensures (exec (.andi32 rz rx imm12) s) (Outcomes (.andi32 rz rx imm12) s) := by
    unfold exec execAndi32
    refine outcomes_alu2 (i := .andi32 rz rx imm12) (s := s) ?_
    rfl

theorem outcomes_andni32 (rz : BitVec 5) (rx : BitVec 5) (imm12 : BitVec 12) (s : State) :
    Ensures (exec (.andni32 rz rx imm12) s) (Outcomes (.andni32 rz rx imm12) s) := by
    unfold exec execAndni32
    refine outcomes_alu2 (i := .andni32 rz rx imm12) (s := s) ?_
    rfl

theorem outcomes_xori32 (rz : BitVec 5) (rx : BitVec 5) (imm12 : BitVec 12) (s : State) :
    Ensures (exec (.xori32 rz rx imm12) s) (Outcomes (.xori32 rz rx imm12) s) := by
    unfold exec execXori32
    refine outcomes_alu2 (i := .xori32 rz rx imm12) (s := s) ?_
    rfl

theorem outcomes_ld32b (rz : BitVec 5) (rx : BitVec 5) (imm12 : BitVec 12) (s : State) :
    Ensures (exec (.ld32b rz rx imm12) s) (Outcomes (.ld32b rz rx imm12) s) := by
    exact outcomes_load32 (i := .ld32b rz rx imm12) (s := s) rfl

theorem outcomes_ld32h (rz : BitVec 5) (rx : BitVec 5) (imm12 : BitVec 12) (s : State) :
    Ensures (exec (.ld32h rz rx imm12) s) (Outcomes (.ld32h rz rx imm12) s) := by
    exact outcomes_load32 (i := .ld32h rz rx imm12) (s := s) rfl

theorem outcomes_ld32w (rz : BitVec 5) (rx : BitVec 5) (imm12 : BitVec 12) (s : State) :
    Ensures (exec (.ld32w rz rx imm12) s) (Outcomes (.ld32w rz rx imm12) s) := by
    exact outcomes_load32 (i := .ld32w rz rx imm12) (s := s) rfl

theorem outcomes_ld32bs (rz : BitVec 5) (rx : BitVec 5) (imm12 : BitVec 12) (s : State) :
    Ensures (exec (.ld32bs rz rx imm12) s) (Outcomes (.ld32bs rz rx imm12) s) := by
    exact outcomes_load32 (i := .ld32bs rz rx imm12) (s := s) rfl

theorem outcomes_ld32hs (rz : BitVec 5) (rx : BitVec 5) (imm12 : BitVec 12) (s : State) :
    Ensures (exec (.ld32hs rz rx imm12) s) (Outcomes (.ld32hs rz rx imm12) s) := by
    exact outcomes_load32 (i := .ld32hs rz rx imm12) (s := s) rfl

theorem outcomes_st32b (rz : BitVec 5) (rx : BitVec 5) (imm12 : BitVec 12) (s : State) :
    Ensures (exec (.st32b rz rx imm12) s) (Outcomes (.st32b rz rx imm12) s) := by
    exact outcomes_store32 (i := .st32b rz rx imm12) (s := s) rfl

theorem outcomes_st32h (rz : BitVec 5) (rx : BitVec 5) (imm12 : BitVec 12) (s : State) :
    Ensures (exec (.st32h rz rx imm12) s) (Outcomes (.st32h rz rx imm12) s) := by
    exact outcomes_store32 (i := .st32h rz rx imm12) (s := s) rfl

theorem outcomes_st32w (rz : BitVec 5) (rx : BitVec 5) (imm12 : BitVec 12) (s : State) :
    Ensures (exec (.st32w rz rx imm12) s) (Outcomes (.st32w rz rx imm12) s) := by
    exact outcomes_store32 (i := .st32w rz rx imm12) (s := s) rfl

theorem outcomes_br32 (offset : BitVec 16) (s : State) :
    Ensures (exec (.br32 offset) s) (Outcomes (.br32 offset) s) := by
    unfold exec execBr32
    exact outcomes_branchIf (i := .br32 offset) (s := s) (by decide)

theorem outcomes_bf32 (offset : BitVec 16) (s : State) :
    Ensures (exec (.bf32 offset) s) (Outcomes (.bf32 offset) s) := by
    unfold exec execBf32
    exact outcomes_branchIf (i := .bf32 offset) (s := s) (by decide)

theorem outcomes_bt32 (offset : BitVec 16) (s : State) :
    Ensures (exec (.bt32 offset) s) (Outcomes (.bt32 offset) s) := by
    unfold exec execBt32
    exact outcomes_branchIf (i := .bt32 offset) (s := s) (by decide)

theorem outcomes_movi32 (rz : BitVec 5) (imm16 : BitVec 16) (s : State) :
    Ensures (exec (.movi32 rz imm16) s) (Outcomes (.movi32 rz imm16) s) := by
    exact outcomes_alu1 (i := .movi32 rz imm16) (s := s) rfl

theorem outcomes_movih32 (rz : BitVec 5) (imm16 : BitVec 16) (s : State) :
    Ensures (exec (.movih32 rz imm16) s) (Outcomes (.movih32 rz imm16) s) := by
    exact outcomes_alu1 (i := .movih32 rz imm16) (s := s) rfl

theorem outcomes_lrw32 (rz : BitVec 5) (offset : BitVec 16) (s : State) :
    Ensures (exec (.lrw32 rz offset) s) (Outcomes (.lrw32 rz offset) s) := by
    exact ensures_withReg fun z hz => ensures_result
      (fun v _ => outcomes_finish4 (partial_setReg (partial_refl _ s) (by simp [destinations, hz]) v)) (fun e _ => outcomes_excSelf e)

theorem outcomes_cmphsi32 (rx : BitVec 5) (imm16 : BitVec 16) (s : State) :
    Ensures (exec (.cmphsi32 rx imm16) s) (Outcomes (.cmphsi32 rx imm16) s) := by
    unfold exec execCmphsi32
    refine outcomes_test1 (i := .cmphsi32 rx imm16) (s := s) ?_
    rfl

theorem outcomes_cmplti32 (rx : BitVec 5) (imm16 : BitVec 16) (s : State) :
    Ensures (exec (.cmplti32 rx imm16) s) (Outcomes (.cmplti32 rx imm16) s) := by
    unfold exec execCmplti32
    refine outcomes_test1 (i := .cmplti32 rx imm16) (s := s) ?_
    rfl

theorem outcomes_cmpnei32 (rx : BitVec 5) (imm16 : BitVec 16) (s : State) :
    Ensures (exec (.cmpnei32 rx imm16) s) (Outcomes (.cmpnei32 rx imm16) s) := by
    unfold exec execCmpnei32
    refine outcomes_test1 (i := .cmpnei32 rx imm16) (s := s) ?_
    rfl

theorem outcomes_ori32 (rz : BitVec 5) (rx : BitVec 5) (imm16 : BitVec 16) (s : State) :
    Ensures (exec (.ori32 rz rx imm16) s) (Outcomes (.ori32 rz rx imm16) s) := by
    unfold exec execOri32
    refine outcomes_alu2 (i := .ori32 rz rx imm16) (s := s) ?_
    rfl

theorem outcomes_bsr32 (offset : BitVec 26) (s : State) :
    Ensures (exec (.bsr32 offset) s) (Outcomes (.bsr32 offset) s) := by
    exact outcomes_finishAt (partial_setReg (partial_refl _ s) (by simp [destinations]) _)

theorem outcomes_ldm32 (ry : BitVec 5) (rx : BitVec 5) (imm5 : BitVec 5) (s : State) :
    Ensures (exec (.ldm32 ry rx imm5) s) (Outcomes (.ldm32 ry rx imm5) s) := by
    refine ensures_withReg fun x hx => ?_
    split
    · exact ensures_refused
    · next l hl =>
      exact outcomes_aligned (outcomes_loadWords (by simp [wordsFrom_snd, destinations, hl]) fun u hu => outcomes_finish4 hu)

theorem outcomes_stm32 (ry : BitVec 5) (rx : BitVec 5) (imm5 : BitVec 5) (s : State) :
    Ensures (exec (.stm32 ry rx imm5) s) (Outcomes (.stm32 ry rx imm5) s) := by
    refine ensures_withReg fun x hx => ?_
    split
    · exact ensures_refused
    · next l hl =>
      refine outcomes_aligned (outcomes_storeWords (fun a ha => ?_) fun u hu => outcomes_finish4 hu)
      rw [wordsFrom_bytes, List.length_map, ldmList_length hl] at ha
      simpa [storeTargets, hx] using ha

theorem outcomes_sync32 (s : State) :
    Ensures (exec (.sync32) s) (Outcomes (.sync32) s) := by
    exact outcomes_finish4 (partial_refl _ s)

theorem outcomes_bmset32 (s : State) :
    Ensures (exec (.bmset32) s) (Outcomes (.bmset32) s) := by
    exact outcomes_bctm fun hb => ensures_finish (outcomes_setBm hb (.inl rfl))

theorem outcomes_bmclr32 (s : State) :
    Ensures (exec (.bmclr32) s) (Outcomes (.bmclr32) s) := by
    exact outcomes_bctm fun hb => ensures_finish (outcomes_setBm hb (.inr rfl))

theorem outcomes_trap32 (n : BitVec 2) (s : State) :
    Ensures (exec (.trap32 n) s) (Outcomes (.trap32 n) s) := by
    exact outcomes_excSelf _

theorem outcomes_rte32 (s : State) :
    Ensures (exec (.rte32) s) (Outcomes (.rte32) s) := by
    exact outcomes_privileged fun hs => ensures_next (.system _ rfl hs (.rte rfl))

theorem outcomes_stop32 (s : State) :
    Ensures (exec (.stop32) s) (Outcomes (.stop32) s) := by
    exact outcomes_privileged fun hs => ensures_finish (.system _ rfl hs (.lowPower _ (.inr (.inr rfl))))

theorem outcomes_wait32 (s : State) :
    Ensures (exec (.wait32) s) (Outcomes (.wait32) s) := by
    exact outcomes_privileged fun hs => ensures_finish (.system _ rfl hs (.lowPower _ (.inl rfl)))

theorem outcomes_doze32 (s : State) :
    Ensures (exec (.doze32) s) (Outcomes (.doze32) s) := by
    exact outcomes_privileged fun hs => ensures_finish (.system _ rfl hs (.lowPower _ (.inr (.inl rfl))))

theorem outcomes_mfcr32 (rz : BitVec 5) (crx : BitVec 5) (sel : BitVec 5) (s : State) :
    Ensures (exec (.mfcr32 rz crx sel) s) (Outcomes (.mfcr32 rz crx sel) s) := by
    refine outcomes_privileged fun _ => ensures_withReg fun z hz => ?_
    split
    · exact ensures_refused
    · exact outcomes_finish4 (partial_setReg (partial_refl _ s) (by simp [destinations, hz]) _)

theorem outcomes_mtcr32 (rx : BitVec 5) (crz : BitVec 5) (sel : BitVec 5) (s : State) :
    Ensures (exec (.mtcr32 rx crz sel) s) (Outcomes (.mtcr32 rx crz sel) s) := by
    refine outcomes_privileged fun hs => ensures_withReg fun x _ => ?_
    split
    · exact ensures_refused
    · next cr hcr =>
      exact ensures_ite (fun _ t ht => .system t rfl hs (.reset _ _ _ rfl t ht)) fun _ =>
        ensures_finish (.system _ rfl hs (.writeCr _ _ _ cr _ rfl hcr _))

theorem outcomes_psrclr32 (imm5 : BitVec 5) (s : State) :
    Ensures (exec (.psrclr32 imm5) s) (Outcomes (.psrclr32 imm5) s) := by
    exact outcomes_privileged fun hs => ensures_finish (.system _ rfl hs (.enables _ _ _ (.inr rfl)))

theorem outcomes_psrset32 (imm5 : BitVec 5) (s : State) :
    Ensures (exec (.psrset32 imm5) s) (Outcomes (.psrset32 imm5) s) := by
    exact outcomes_privileged fun hs => ensures_finish (.system _ rfl hs (.enables _ _ _ (.inl rfl)))

theorem outcomes_bkpt16 (s : State) :
    Ensures (exec (.bkpt16) s) (Outcomes (.bkpt16) s) := by
    exact ensures_ite (fun h => ensures_next (.debug rfl (by simp at h; exact h.1))) fun _ => outcomes_excSelf _

theorem outcomes_lrw16 (rz : BitVec 3) (offset : BitVec 8) (s : State) :
    Ensures (exec (.lrw16 rz offset) s) (Outcomes (.lrw16 rz offset) s) := by
    exact outcomes_load16 (by simp [destinations])

theorem outcomes_br16 (offset : BitVec 10) (s : State) :
    Ensures (exec (.br16 offset) s) (Outcomes (.br16 offset) s) := by
    unfold exec execBr16
    exact outcomes_branchIf (i := .br16 offset) (s := s) (by decide)

theorem outcomes_bt16 (offset : BitVec 10) (s : State) :
    Ensures (exec (.bt16 offset) s) (Outcomes (.bt16 offset) s) := by
    unfold exec execBt16
    exact outcomes_branchIf (i := .bt16 offset) (s := s) (by decide)

theorem outcomes_bf16 (offset : BitVec 10) (s : State) :
    Ensures (exec (.bf16 offset) s) (Outcomes (.bf16 offset) s) := by
    unfold exec execBf16
    exact outcomes_branchIf (i := .bf16 offset) (s := s) (by decide)

theorem outcomes_addi16sp (imm7 : BitVec 7) (s : State) :
    Ensures (exec (.addi16sp imm7) s) (Outcomes (.addi16sp imm7) s) := by
    exact outcomes_put16 (i := .addi16sp imm7) (s := s) (by simp [destinations])

theorem outcomes_subi16sp (imm7 : BitVec 7) (s : State) :
    Ensures (exec (.subi16sp imm7) s) (Outcomes (.subi16sp imm7) s) := by
    exact outcomes_put16 (i := .subi16sp imm7) (s := s) (by simp [destinations])

theorem outcomes_nie16 (s : State) :
    Ensures (exec (.nie16) s) (Outcomes (.nie16) s) := by
    refine outcomes_privileged fun hs => outcomes_aligned (outcomes_storeWords (fun a ha => ?_) fun u hu => ?_)
    · exact nie_bytes s a ha
    · exact outcomes_nie hs hu

theorem outcomes_nir16 (s : State) :
    Ensures (exec (.nir16) s) (Outcomes (.nir16) s) := by
    refine outcomes_privileged fun hs => outcomes_aligned (ensures_result (fun v _ => ?_) fun e _ => outcomes_excSelf e)
    exact ensures_result (fun w _ => ensures_next (.system _ rfl hs (.nir rfl v w _))) fun e _ => outcomes_excSelf e

theorem outcomes_ipush16 (s : State) :
    Ensures (exec (.ipush16) s) (Outcomes (.ipush16) s) := by
    exact outcomes_pushList (by simp [destinations]) rfl

theorem outcomes_ipop16 (s : State) :
    Ensures (exec (.ipop16) s) (Outcomes (.ipop16) s) := by
    exact outcomes_popList (by simp [destinations]) (fun r hr => by simp [destinations, hr]) fun u hu => outcomes_finish2 hu

theorem outcomes_pop16 (r15 : BitVec 1) (list1 : BitVec 4) (s : State) :
    Ensures (exec (.pop16 r15 list1) s) (Outcomes (.pop16 r15 list1) s) := by
    unfold exec execPop16
    exact outcomes_popList (l := pushPopList r15 list1) (i := .pop16 r15 list1) (s := s) (by simp [destinations]) (fun r hr => by simp [destinations, hr]) fun u hu => outcomes_finishAt hu

theorem outcomes_push16 (r15 : BitVec 1) (list1 : BitVec 4) (s : State) :
    Ensures (exec (.push16 r15 list1) s) (Outcomes (.push16 r15 list1) s) := by
    exact outcomes_pushList (by simp [destinations]) rfl

theorem outcomes_bpop16h (rz : BitVec 3) (s : State) :
    Ensures (exec (.bpop16h rz) s) (Outcomes (.bpop16h rz) s) := by
    exact outcomes_bpop (i := .bpop16h rz) (s := s) rfl

theorem outcomes_bpop16w (rz : BitVec 3) (s : State) :
    Ensures (exec (.bpop16w rz) s) (Outcomes (.bpop16w rz) s) := by
    exact outcomes_bpop (i := .bpop16w rz) (s := s) rfl

theorem outcomes_bpush16h (rz : BitVec 3) (s : State) :
    Ensures (exec (.bpush16h rz) s) (Outcomes (.bpush16h rz) s) := by
    exact outcomes_bpush (i := .bpush16h rz) (s := s) rfl rfl

theorem outcomes_bpush16w (rz : BitVec 3) (s : State) :
    Ensures (exec (.bpush16w rz) s) (Outcomes (.bpush16w rz) s) := by
    exact outcomes_bpush (i := .bpush16w rz) (s := s) rfl rfl

theorem outcomes_addi16rsp (rz : BitVec 3) (imm8 : BitVec 8) (s : State) :
    Ensures (exec (.addi16rsp rz imm8) s) (Outcomes (.addi16rsp rz imm8) s) := by
    exact outcomes_put16 (i := .addi16rsp rz imm8) (s := s) (by simp [destinations])

theorem outcomes_addi16i8 (rz : BitVec 3) (imm8 : BitVec 8) (s : State) :
    Ensures (exec (.addi16i8 rz imm8) s) (Outcomes (.addi16i8 rz imm8) s) := by
    exact outcomes_put16 (i := .addi16i8 rz imm8) (s := s) (by simp [destinations])

theorem outcomes_subi16i8 (rz : BitVec 3) (imm8 : BitVec 8) (s : State) :
    Ensures (exec (.subi16i8 rz imm8) s) (Outcomes (.subi16i8 rz imm8) s) := by
    exact outcomes_put16 (i := .subi16i8 rz imm8) (s := s) (by simp [destinations])

theorem outcomes_movi16 (rz : BitVec 3) (imm8 : BitVec 8) (s : State) :
    Ensures (exec (.movi16 rz imm8) s) (Outcomes (.movi16 rz imm8) s) := by
    exact outcomes_put16 (i := .movi16 rz imm8) (s := s) (by simp [destinations])

theorem outcomes_cmphsi16 (rx : BitVec 3) (imm5 : BitVec 5) (s : State) :
    Ensures (exec (.cmphsi16 rx imm5) s) (Outcomes (.cmphsi16 rx imm5) s) := by
    exact outcomes_test16 (i := .cmphsi16 rx imm5) (s := s) rfl

theorem outcomes_cmplti16 (rx : BitVec 3) (imm5 : BitVec 5) (s : State) :
    Ensures (exec (.cmplti16 rx imm5) s) (Outcomes (.cmplti16 rx imm5) s) := by
    exact outcomes_test16 (i := .cmplti16 rx imm5) (s := s) rfl

theorem outcomes_cmpnei16 (rx : BitVec 3) (imm5 : BitVec 5) (s : State) :
    Ensures (exec (.cmpnei16 rx imm5) s) (Outcomes (.cmpnei16 rx imm5) s) := by
    exact outcomes_test16 (i := .cmpnei16 rx imm5) (s := s) rfl

theorem outcomes_bclri16 (rz : BitVec 3) (imm5 : BitVec 5) (s : State) :
    Ensures (exec (.bclri16 rz imm5) s) (Outcomes (.bclri16 rz imm5) s) := by
    exact outcomes_put16 (i := .bclri16 rz imm5) (s := s) (by simp [destinations])

theorem outcomes_bseti16 (rz : BitVec 3) (imm5 : BitVec 5) (s : State) :
    Ensures (exec (.bseti16 rz imm5) s) (Outcomes (.bseti16 rz imm5) s) := by
    exact outcomes_put16 (i := .bseti16 rz imm5) (s := s) (by simp [destinations])

theorem outcomes_btsti16 (rx : BitVec 3) (imm5 : BitVec 5) (s : State) :
    Ensures (exec (.btsti16 rx imm5) s) (Outcomes (.btsti16 rx imm5) s) := by
    exact outcomes_test16 (i := .btsti16 rx imm5) (s := s) rfl

theorem outcomes_jmpix16 (rx : BitVec 3) (imm2 : BitVec 2) (s : State) :
    Ensures (exec (.jmpix16 rx imm2) s) (Outcomes (.jmpix16 rx imm2) s) := by
    exact outcomes_bctm fun _ => outcomes_finishAt (partial_refl _ s)

theorem outcomes_lsli16 (rz : BitVec 3) (rx : BitVec 3) (imm5 : BitVec 5) (s : State) :
    Ensures (exec (.lsli16 rz rx imm5) s) (Outcomes (.lsli16 rz rx imm5) s) := by
    exact outcomes_put16 (i := .lsli16 rz rx imm5) (s := s) (by simp [destinations])

theorem outcomes_lsri16 (rz : BitVec 3) (rx : BitVec 3) (imm5 : BitVec 5) (s : State) :
    Ensures (exec (.lsri16 rz rx imm5) s) (Outcomes (.lsri16 rz rx imm5) s) := by
    exact outcomes_put16 (i := .lsri16 rz rx imm5) (s := s) (by simp [destinations])

theorem outcomes_asri16 (rz : BitVec 3) (rx : BitVec 3) (imm5 : BitVec 5) (s : State) :
    Ensures (exec (.asri16 rz rx imm5) s) (Outcomes (.asri16 rz rx imm5) s) := by
    exact outcomes_put16 (i := .asri16 rz rx imm5) (s := s) (by simp [destinations])

theorem outcomes_addu16r3 (rz : BitVec 3) (rx : BitVec 3) (ry : BitVec 3) (s : State) :
    Ensures (exec (.addu16r3 rz rx ry) s) (Outcomes (.addu16r3 rz rx ry) s) := by
    exact outcomes_put16 (i := .addu16r3 rz rx ry) (s := s) (by simp [destinations])

theorem outcomes_subu16r3 (rz : BitVec 3) (rx : BitVec 3) (ry : BitVec 3) (s : State) :
    Ensures (exec (.subu16r3 rz rx ry) s) (Outcomes (.subu16r3 rz rx ry) s) := by
    exact outcomes_put16 (i := .subu16r3 rz rx ry) (s := s) (by simp [destinations])

theorem outcomes_addi16i3 (rz : BitVec 3) (rx : BitVec 3) (imm3 : BitVec 3) (s : State) :
    Ensures (exec (.addi16i3 rz rx imm3) s) (Outcomes (.addi16i3 rz rx imm3) s) := by
    exact outcomes_put16 (i := .addi16i3 rz rx imm3) (s := s) (by simp [destinations])

theorem outcomes_subi16i3 (rz : BitVec 3) (rx : BitVec 3) (imm3 : BitVec 3) (s : State) :
    Ensures (exec (.subi16i3 rz rx imm3) s) (Outcomes (.subi16i3 rz rx imm3) s) := by
    exact outcomes_put16 (i := .subi16i3 rz rx imm3) (s := s) (by simp [destinations])

theorem outcomes_addu16 (rz : BitVec 4) (rx : BitVec 4) (s : State) :
    Ensures (exec (.addu16 rz rx) s) (Outcomes (.addu16 rz rx) s) := by
    exact outcomes_put16 (i := .addu16 rz rx) (s := s) (by simp [destinations])

theorem outcomes_addc16 (rz : BitVec 4) (rx : BitVec 4) (s : State) :
    Ensures (exec (.addc16 rz rx) s) (Outcomes (.addc16 rz rx) s) := by
    exact outcomes_put16c (i := .addc16 rz rx) (s := s) (by simp [destinations]) rfl

theorem outcomes_subu16 (rz : BitVec 4) (rx : BitVec 4) (s : State) :
    Ensures (exec (.subu16 rz rx) s) (Outcomes (.subu16 rz rx) s) := by
    exact outcomes_put16 (i := .subu16 rz rx) (s := s) (by simp [destinations])

theorem outcomes_subc16 (rz : BitVec 4) (rx : BitVec 4) (s : State) :
    Ensures (exec (.subc16 rz rx) s) (Outcomes (.subc16 rz rx) s) := by
    exact outcomes_put16c (i := .subc16 rz rx) (s := s) (by simp [destinations]) rfl

theorem outcomes_cmphs16 (rx : BitVec 4) (ry : BitVec 4) (s : State) :
    Ensures (exec (.cmphs16 rx ry) s) (Outcomes (.cmphs16 rx ry) s) := by
    exact outcomes_test16 (i := .cmphs16 rx ry) (s := s) rfl

theorem outcomes_cmplt16 (rx : BitVec 4) (ry : BitVec 4) (s : State) :
    Ensures (exec (.cmplt16 rx ry) s) (Outcomes (.cmplt16 rx ry) s) := by
    exact outcomes_test16 (i := .cmplt16 rx ry) (s := s) rfl

theorem outcomes_cmpne16 (rx : BitVec 4) (ry : BitVec 4) (s : State) :
    Ensures (exec (.cmpne16 rx ry) s) (Outcomes (.cmpne16 rx ry) s) := by
    exact outcomes_test16 (i := .cmpne16 rx ry) (s := s) rfl

theorem outcomes_mvcv16 (rz : BitVec 4) (s : State) :
    Ensures (exec (.mvcv16 rz) s) (Outcomes (.mvcv16 rz) s) := by
    exact outcomes_put16 (i := .mvcv16 rz) (s := s) (by simp [destinations])

theorem outcomes_and16 (rz : BitVec 4) (rx : BitVec 4) (s : State) :
    Ensures (exec (.and16 rz rx) s) (Outcomes (.and16 rz rx) s) := by
    exact outcomes_put16 (i := .and16 rz rx) (s := s) (by simp [destinations])

theorem outcomes_andn16 (rz : BitVec 4) (rx : BitVec 4) (s : State) :
    Ensures (exec (.andn16 rz rx) s) (Outcomes (.andn16 rz rx) s) := by
    exact outcomes_put16 (i := .andn16 rz rx) (s := s) (by simp [destinations])

theorem outcomes_tst16 (rx : BitVec 4) (ry : BitVec 4) (s : State) :
    Ensures (exec (.tst16 rx ry) s) (Outcomes (.tst16 rx ry) s) := by
    exact outcomes_test16 (i := .tst16 rx ry) (s := s) rfl

theorem outcomes_tstnbz16 (rx : BitVec 4) (s : State) :
    Ensures (exec (.tstnbz16 rx) s) (Outcomes (.tstnbz16 rx) s) := by
    exact outcomes_test16 (i := .tstnbz16 rx) (s := s) rfl

theorem outcomes_or16 (rz : BitVec 4) (rx : BitVec 4) (s : State) :
    Ensures (exec (.or16 rz rx) s) (Outcomes (.or16 rz rx) s) := by
    exact outcomes_put16 (i := .or16 rz rx) (s := s) (by simp [destinations])

theorem outcomes_xor16 (rz : BitVec 4) (rx : BitVec 4) (s : State) :
    Ensures (exec (.xor16 rz rx) s) (Outcomes (.xor16 rz rx) s) := by
    exact outcomes_put16 (i := .xor16 rz rx) (s := s) (by simp [destinations])

theorem outcomes_nor16 (rz : BitVec 4) (rx : BitVec 4) (s : State) :
    Ensures (exec (.nor16 rz rx) s) (Outcomes (.nor16 rz rx) s) := by
    exact outcomes_put16 (i := .nor16 rz rx) (s := s) (by simp [destinations])

theorem outcomes_mov16 (rz : BitVec 4) (rx : BitVec 4) (s : State) :
    Ensures (exec (.mov16 rz rx) s) (Outcomes (.mov16 rz rx) s) := by
    exact outcomes_put16 (i := .mov16 rz rx) (s := s) (by simp [destinations])

theorem outcomes_lsl16 (rz : BitVec 4) (rx : BitVec 4) (s : State) :
    Ensures (exec (.lsl16 rz rx) s) (Outcomes (.lsl16 rz rx) s) := by
    exact outcomes_put16 (i := .lsl16 rz rx) (s := s) (by simp [destinations])

theorem outcomes_lsr16 (rz : BitVec 4) (rx : BitVec 4) (s : State) :
    Ensures (exec (.lsr16 rz rx) s) (Outcomes (.lsr16 rz rx) s) := by
    exact outcomes_put16 (i := .lsr16 rz rx) (s := s) (by simp [destinations])

theorem outcomes_asr16 (rz : BitVec 4) (rx : BitVec 4) (s : State) :
    Ensures (exec (.asr16 rz rx) s) (Outcomes (.asr16 rz rx) s) := by
    exact outcomes_put16 (i := .asr16 rz rx) (s := s) (by simp [destinations])

theorem outcomes_rotl16 (rz : BitVec 4) (rx : BitVec 4) (s : State) :
    Ensures (exec (.rotl16 rz rx) s) (Outcomes (.rotl16 rz rx) s) := by
    exact outcomes_put16 (i := .rotl16 rz rx) (s := s) (by simp [destinations])

theorem outcomes_zextb16 (rz : BitVec 4) (rx : BitVec 4) (s : State) :
    Ensures (exec (.zextb16 rz rx) s) (Outcomes (.zextb16 rz rx) s) := by
    exact outcomes_put16 (i := .zextb16 rz rx) (s := s) (by simp [destinations])

theorem outcomes_zexth16 (rz : BitVec 4) (rx : BitVec 4) (s : State) :
    Ensures (exec (.zexth16 rz rx) s) (Outcomes (.zexth16 rz rx) s) := by
    exact outcomes_put16 (i := .zexth16 rz rx) (s := s) (by simp [destinations])

theorem outcomes_sextb16 (rz : BitVec 4) (rx : BitVec 4) (s : State) :
    Ensures (exec (.sextb16 rz rx) s) (Outcomes (.sextb16 rz rx) s) := by
    exact outcomes_put16 (i := .sextb16 rz rx) (s := s) (by simp [destinations])

theorem outcomes_sexth16 (rz : BitVec 4) (rx : BitVec 4) (s : State) :
    Ensures (exec (.sexth16 rz rx) s) (Outcomes (.sexth16 rz rx) s) := by
    exact outcomes_put16 (i := .sexth16 rz rx) (s := s) (by simp [destinations])

theorem outcomes_jmp16 (rx : BitVec 4) (s : State) :
    Ensures (exec (.jmp16 rx) s) (Outcomes (.jmp16 rx) s) := by
    exact outcomes_finishAt (partial_refl _ s)

theorem outcomes_jsr16 (rx : BitVec 4) (s : State) :
    Ensures (exec (.jsr16 rx) s) (Outcomes (.jsr16 rx) s) := by
    exact outcomes_finishAt (partial_setReg (partial_refl _ s) (by simp [destinations]) _)

theorem outcomes_revb16 (rz : BitVec 4) (rx : BitVec 4) (s : State) :
    Ensures (exec (.revb16 rz rx) s) (Outcomes (.revb16 rz rx) s) := by
    exact outcomes_put16 (i := .revb16 rz rx) (s := s) (by simp [destinations])

theorem outcomes_revh16 (rz : BitVec 4) (rx : BitVec 4) (s : State) :
    Ensures (exec (.revh16 rz rx) s) (Outcomes (.revh16 rz rx) s) := by
    exact outcomes_put16 (i := .revh16 rz rx) (s := s) (by simp [destinations])

theorem outcomes_mult16 (rz : BitVec 4) (rx : BitVec 4) (s : State) :
    Ensures (exec (.mult16 rz rx) s) (Outcomes (.mult16 rz rx) s) := by
    exact outcomes_put16 (i := .mult16 rz rx) (s := s) (by simp [destinations])

theorem outcomes_ld16b (rz : BitVec 3) (rx : BitVec 3) (imm5 : BitVec 5) (s : State) :
    Ensures (exec (.ld16b rz rx imm5) s) (Outcomes (.ld16b rz rx imm5) s) := by
    exact outcomes_load16 (i := .ld16b rz rx imm5) (s := s) (by simp [destinations])

theorem outcomes_ld16h (rz : BitVec 3) (rx : BitVec 3) (imm5 : BitVec 5) (s : State) :
    Ensures (exec (.ld16h rz rx imm5) s) (Outcomes (.ld16h rz rx imm5) s) := by
    exact outcomes_load16 (i := .ld16h rz rx imm5) (s := s) (by simp [destinations])

theorem outcomes_ld16w (rz : BitVec 3) (rx : BitVec 3) (imm5 : BitVec 5) (s : State) :
    Ensures (exec (.ld16w rz rx imm5) s) (Outcomes (.ld16w rz rx imm5) s) := by
    exact outcomes_load16 (i := .ld16w rz rx imm5) (s := s) (by simp [destinations])

theorem outcomes_st16b (rz : BitVec 3) (rx : BitVec 3) (imm5 : BitVec 5) (s : State) :
    Ensures (exec (.st16b rz rx imm5) s) (Outcomes (.st16b rz rx imm5) s) := by
    exact outcomes_store16 (i := .st16b rz rx imm5) (s := s) rfl

theorem outcomes_st16h (rz : BitVec 3) (rx : BitVec 3) (imm5 : BitVec 5) (s : State) :
    Ensures (exec (.st16h rz rx imm5) s) (Outcomes (.st16h rz rx imm5) s) := by
    exact outcomes_store16 (i := .st16h rz rx imm5) (s := s) rfl

theorem outcomes_st16w (rz : BitVec 3) (rx : BitVec 3) (imm5 : BitVec 5) (s : State) :
    Ensures (exec (.st16w rz rx imm5) s) (Outcomes (.st16w rz rx imm5) s) := by
    exact outcomes_store16 (i := .st16w rz rx imm5) (s := s) rfl

theorem outcomes_ld16wsp (rz : BitVec 3) (imm8 : BitVec 8) (s : State) :
    Ensures (exec (.ld16wsp rz imm8) s) (Outcomes (.ld16wsp rz imm8) s) := by
    exact outcomes_load16 (i := .ld16wsp rz imm8) (s := s) (by simp [destinations])

theorem outcomes_st16wsp (rz : BitVec 3) (imm8 : BitVec 8) (s : State) :
    Ensures (exec (.st16wsp rz imm8) s) (Outcomes (.st16wsp rz imm8) s) := by
    exact outcomes_store16 (i := .st16wsp rz imm8) (s := s) rfl

/-- Whatever the instruction, a next state has one of the forms of `Outcomes`. -/
theorem exec_outcomes (i : Instr) (s : State) : Ensures (exec i s) (Outcomes i s) := by
  cases i with
  | addu32 rz rx ry => exact outcomes_addu32 rz rx ry s
  | addc32 rz rx ry => exact outcomes_addc32 rz rx ry s
  | subu32 rz rx ry => exact outcomes_subu32 rz rx ry s
  | subc32 rz rx ry => exact outcomes_subc32 rz rx ry s
  | mvc32 rz => exact outcomes_mvc32 rz s
  | ixh32 rz rx ry => exact outcomes_ixh32 rz rx ry s
  | ixw32 rz rx ry => exact outcomes_ixw32 rz rx ry s
  | incf32 rz rx imm5 => exact outcomes_incf32 rz rx imm5 s
  | inct32 rz rx imm5 => exact outcomes_inct32 rz rx imm5 s
  | decf32 rz rx imm5 => exact outcomes_decf32 rz rx imm5 s
  | dect32 rz rx imm5 => exact outcomes_dect32 rz rx imm5 s
  | and32 rz rx ry => exact outcomes_and32 rz rx ry s
  | andn32 rz rx ry => exact outcomes_andn32 rz rx ry s
  | or32 rz rx ry => exact outcomes_or32 rz rx ry s
  | xor32 rz rx ry => exact outcomes_xor32 rz rx ry s
  | nor32 rz rx ry => exact outcomes_nor32 rz rx ry s
  | bclri32 rz rx imm5 => exact outcomes_bclri32 rz rx imm5 s
  | bseti32 rz rx imm5 => exact outcomes_bseti32 rz rx imm5 s
  | btsti32 rx imm5 => exact outcomes_btsti32 rx imm5 s
  | lsl32 rz rx ry => exact outcomes_lsl32 rz rx ry s
  | lsr32 rz rx ry => exact outcomes_lsr32 rz rx ry s
  | asr32 rz rx ry => exact outcomes_asr32 rz rx ry s
  | rotl32 rz rx ry => exact outcomes_rotl32 rz rx ry s
  | lsli32 rz rx imm5 => exact outcomes_lsli32 rz rx imm5 s
  | lsri32 rz rx imm5 => exact outcomes_lsri32 rz rx imm5 s
  | asri32 rz rx imm5 => exact outcomes_asri32 rz rx imm5 s
  | rotli32 rz rx imm5 => exact outcomes_rotli32 rz rx imm5 s
  | lslc32 rz rx imm5 => exact outcomes_lslc32 rz rx imm5 s
  | lsrc32 rz rx imm5 => exact outcomes_lsrc32 rz rx imm5 s
  | asrc32 rz rx imm5 => exact outcomes_asrc32 rz rx imm5 s
  | xsr32 rz rx imm5 => exact outcomes_xsr32 rz rx imm5 s
  | bmaski32 rz imm5 => exact outcomes_bmaski32 rz imm5 s
  | xtrb0 rz rx => exact outcomes_xtrb0 rz rx s
  | xtrb1 rz rx => exact outcomes_xtrb1 rz rx s
  | xtrb2 rz rx => exact outcomes_xtrb2 rz rx s
  | xtrb3 rz rx => exact outcomes_xtrb3 rz rx s
  | ff0 rz rx => exact outcomes_ff0 rz rx s
  | ff1 rz rx => exact outcomes_ff1 rz rx s
  | mult32 rz rx ry => exact outcomes_mult32 rz rx ry s
  | addi32 rz rx imm12 => exact outcomes_addi32 rz rx imm12 s
  | subi32 rz rx imm12 => exact outcomes_subi32 rz rx imm12 s
  | andi32 rz rx imm12 => exact outcomes_andi32 rz rx imm12 s
  | andni32 rz rx imm12 => exact outcomes_andni32 rz rx imm12 s
  | xori32 rz rx imm12 => exact outcomes_xori32 rz rx imm12 s
  | ld32b rz rx imm12 => exact outcomes_ld32b rz rx imm12 s
  | ld32h rz rx imm12 => exact outcomes_ld32h rz rx imm12 s
  | ld32w rz rx imm12 => exact outcomes_ld32w rz rx imm12 s
  | ld32bs rz rx imm12 => exact outcomes_ld32bs rz rx imm12 s
  | ld32hs rz rx imm12 => exact outcomes_ld32hs rz rx imm12 s
  | st32b rz rx imm12 => exact outcomes_st32b rz rx imm12 s
  | st32h rz rx imm12 => exact outcomes_st32h rz rx imm12 s
  | st32w rz rx imm12 => exact outcomes_st32w rz rx imm12 s
  | br32 offset => exact outcomes_br32 offset s
  | bf32 offset => exact outcomes_bf32 offset s
  | bt32 offset => exact outcomes_bt32 offset s
  | movi32 rz imm16 => exact outcomes_movi32 rz imm16 s
  | movih32 rz imm16 => exact outcomes_movih32 rz imm16 s
  | lrw32 rz offset => exact outcomes_lrw32 rz offset s
  | cmphsi32 rx imm16 => exact outcomes_cmphsi32 rx imm16 s
  | cmplti32 rx imm16 => exact outcomes_cmplti32 rx imm16 s
  | cmpnei32 rx imm16 => exact outcomes_cmpnei32 rx imm16 s
  | ori32 rz rx imm16 => exact outcomes_ori32 rz rx imm16 s
  | bsr32 offset => exact outcomes_bsr32 offset s
  | ldm32 ry rx imm5 => exact outcomes_ldm32 ry rx imm5 s
  | stm32 ry rx imm5 => exact outcomes_stm32 ry rx imm5 s
  | sync32 => exact outcomes_sync32 s
  | bmset32 => exact outcomes_bmset32 s
  | bmclr32 => exact outcomes_bmclr32 s
  | trap32 n => exact outcomes_trap32 n s
  | rte32 => exact outcomes_rte32 s
  | stop32 => exact outcomes_stop32 s
  | wait32 => exact outcomes_wait32 s
  | doze32 => exact outcomes_doze32 s
  | mfcr32 rz crx sel => exact outcomes_mfcr32 rz crx sel s
  | mtcr32 rx crz sel => exact outcomes_mtcr32 rx crz sel s
  | psrclr32 imm5 => exact outcomes_psrclr32 imm5 s
  | psrset32 imm5 => exact outcomes_psrset32 imm5 s
  | bkpt16 => exact outcomes_bkpt16 s
  | lrw16 rz offset => exact outcomes_lrw16 rz offset s
  | br16 offset => exact outcomes_br16 offset s
  | bt16 offset => exact outcomes_bt16 offset s
  | bf16 offset => exact outcomes_bf16 offset s
  | addi16sp imm7 => exact outcomes_addi16sp imm7 s
  | subi16sp imm7 => exact outcomes_subi16sp imm7 s
  | nie16 => exact outcomes_nie16 s
  | nir16 => exact outcomes_nir16 s
  | ipush16 => exact outcomes_ipush16 s
  | ipop16 => exact outcomes_ipop16 s
  | pop16 r15 list1 => exact outcomes_pop16 r15 list1 s
  | push16 r15 list1 => exact outcomes_push16 r15 list1 s
  | bpop16h rz => exact outcomes_bpop16h rz s
  | bpop16w rz => exact outcomes_bpop16w rz s
  | bpush16h rz => exact outcomes_bpush16h rz s
  | bpush16w rz => exact outcomes_bpush16w rz s
  | addi16rsp rz imm8 => exact outcomes_addi16rsp rz imm8 s
  | addi16i8 rz imm8 => exact outcomes_addi16i8 rz imm8 s
  | subi16i8 rz imm8 => exact outcomes_subi16i8 rz imm8 s
  | movi16 rz imm8 => exact outcomes_movi16 rz imm8 s
  | cmphsi16 rx imm5 => exact outcomes_cmphsi16 rx imm5 s
  | cmplti16 rx imm5 => exact outcomes_cmplti16 rx imm5 s
  | cmpnei16 rx imm5 => exact outcomes_cmpnei16 rx imm5 s
  | bclri16 rz imm5 => exact outcomes_bclri16 rz imm5 s
  | bseti16 rz imm5 => exact outcomes_bseti16 rz imm5 s
  | btsti16 rx imm5 => exact outcomes_btsti16 rx imm5 s
  | jmpix16 rx imm2 => exact outcomes_jmpix16 rx imm2 s
  | lsli16 rz rx imm5 => exact outcomes_lsli16 rz rx imm5 s
  | lsri16 rz rx imm5 => exact outcomes_lsri16 rz rx imm5 s
  | asri16 rz rx imm5 => exact outcomes_asri16 rz rx imm5 s
  | addu16r3 rz rx ry => exact outcomes_addu16r3 rz rx ry s
  | subu16r3 rz rx ry => exact outcomes_subu16r3 rz rx ry s
  | addi16i3 rz rx imm3 => exact outcomes_addi16i3 rz rx imm3 s
  | subi16i3 rz rx imm3 => exact outcomes_subi16i3 rz rx imm3 s
  | addu16 rz rx => exact outcomes_addu16 rz rx s
  | addc16 rz rx => exact outcomes_addc16 rz rx s
  | subu16 rz rx => exact outcomes_subu16 rz rx s
  | subc16 rz rx => exact outcomes_subc16 rz rx s
  | cmphs16 rx ry => exact outcomes_cmphs16 rx ry s
  | cmplt16 rx ry => exact outcomes_cmplt16 rx ry s
  | cmpne16 rx ry => exact outcomes_cmpne16 rx ry s
  | mvcv16 rz => exact outcomes_mvcv16 rz s
  | and16 rz rx => exact outcomes_and16 rz rx s
  | andn16 rz rx => exact outcomes_andn16 rz rx s
  | tst16 rx ry => exact outcomes_tst16 rx ry s
  | tstnbz16 rx => exact outcomes_tstnbz16 rx s
  | or16 rz rx => exact outcomes_or16 rz rx s
  | xor16 rz rx => exact outcomes_xor16 rz rx s
  | nor16 rz rx => exact outcomes_nor16 rz rx s
  | mov16 rz rx => exact outcomes_mov16 rz rx s
  | lsl16 rz rx => exact outcomes_lsl16 rz rx s
  | lsr16 rz rx => exact outcomes_lsr16 rz rx s
  | asr16 rz rx => exact outcomes_asr16 rz rx s
  | rotl16 rz rx => exact outcomes_rotl16 rz rx s
  | zextb16 rz rx => exact outcomes_zextb16 rz rx s
  | zexth16 rz rx => exact outcomes_zexth16 rz rx s
  | sextb16 rz rx => exact outcomes_sextb16 rz rx s
  | sexth16 rz rx => exact outcomes_sexth16 rz rx s
  | jmp16 rx => exact outcomes_jmp16 rx s
  | jsr16 rx => exact outcomes_jsr16 rx s
  | revb16 rz rx => exact outcomes_revb16 rz rx s
  | revh16 rz rx => exact outcomes_revh16 rz rx s
  | mult16 rz rx => exact outcomes_mult16 rz rx s
  | ld16b rz rx imm5 => exact outcomes_ld16b rz rx imm5 s
  | ld16h rz rx imm5 => exact outcomes_ld16h rz rx imm5 s
  | ld16w rz rx imm5 => exact outcomes_ld16w rz rx imm5 s
  | st16b rz rx imm5 => exact outcomes_st16b rz rx imm5 s
  | st16h rz rx imm5 => exact outcomes_st16h rz rx imm5 s
  | st16w rz rx imm5 => exact outcomes_st16w rz rx imm5 s
  | ld16wsp rz imm8 => exact outcomes_ld16wsp rz imm8 s
  | st16wsp rz imm8 => exact outcomes_st16wsp rz imm8 s

end Sys2Proof.Machine
end

