-- ==== Sys2Proof/Laws/PerInstr.lean ====
section
/-! SUPPORT. A property of every instruction, one lemma per instruction: the first half-word of its encoding says, by the
length mark alone, how long the instruction is (30_encoding R131, R132). -/

set_option Elab.async false

namespace Sys2Proof.Laws.LengthMark

/-- The first half-word of the encoding carries the mark of a 32-bit instruction exactly if the instruction has four bytes,
and the encoding has as many half-words as the length says. -/
def Statement (i : Instr) : Prop :=
  (encode i).head?.map isLong = some (decide (i.length = 4)) ∧ 2 * (encode i).length = i.length

theorem addu32 (rz : BitVec 5) (rx : BitVec 5) (ry : BitVec 5) : Statement (.addu32 rz rx ry) := by
  simp [Statement, encode, Instr.length, Instr.code]

theorem addc32 (rz : BitVec 5) (rx : BitVec 5) (ry : BitVec 5) : Statement (.addc32 rz rx ry) := by
  simp [Statement, encode, Instr.length, Instr.code]

theorem subu32 (rz : BitVec 5) (rx : BitVec 5) (ry : BitVec 5) : Statement (.subu32 rz rx ry) := by
  simp [Statement, encode, Instr.length, Instr.code]

theorem subc32 (rz : BitVec 5) (rx : BitVec 5) (ry : BitVec 5) : Statement (.subc32 rz rx ry) := by
  simp [Statement, encode, Instr.length, Instr.code]

theorem mvc32 (rz : BitVec 5) : Statement (.mvc32 rz) := by
  simp [Statement, encode, Instr.length, Instr.code]

theorem ixh32 (rz : BitVec 5) (rx : BitVec 5) (ry : BitVec 5) : Statement (.ixh32 rz rx ry) := by
  simp [Statement, encode, Instr.length, Instr.code]

theorem ixw32 (rz : BitVec 5) (rx : BitVec 5) (ry : BitVec 5) : Statement (.ixw32 rz rx ry) := by
  simp [Statement, encode, Instr.length, Instr.code]

theorem incf32 (rz : BitVec 5) (rx : BitVec 5) (imm5 : BitVec 5) : Statement (.incf32 rz rx imm5) := by
  simp [Statement, encode, Instr.length, Instr.code]

theorem inct32 (rz : BitVec 5) (rx : BitVec 5) (imm5 : BitVec 5) : Statement (.inct32 rz rx imm5) := by
  simp [Statement, encode, Instr.length, Instr.code]

theorem decf32 (rz : BitVec 5) (rx : BitVec 5) (imm5 : BitVec 5) : Statement (.decf32 rz rx imm5) := by
  simp [Statement, encode, Instr.length, Instr.code]

theorem dect32 (rz : BitVec 5) (rx : BitVec 5) (imm5 : BitVec 5) : Statement (.dect32 rz rx imm5) := by
  simp [Statement, encode, Instr.length, Instr.code]

theorem and32 (rz : BitVec 5) (rx : BitVec 5) (ry : BitVec 5) : Statement (.and32 rz rx ry) := by
  simp [Statement, encode, Instr.length, Instr.code]

theorem andn32 (rz : BitVec 5) (rx : BitVec 5) (ry : BitVec 5) : Statement (.andn32 rz rx ry) := by
  simp [Statement, encode, Instr.length, Instr.code]

theorem or32 (rz : BitVec 5) (rx : BitVec 5) (ry : BitVec 5) : Statement (.or32 rz rx ry) := by
  simp [Statement, encode, Instr.length, Instr.code]

theorem xor32 (rz : BitVec 5) (rx : BitVec 5) (ry : BitVec 5) : Statement (.xor32 rz rx ry) := by
  simp [Statement, encode, Instr.length, Instr.code]

theorem nor32 (rz : BitVec 5) (rx : BitVec 5) (ry : BitVec 5) : Statement (.nor32 rz rx ry) := by
  simp [Statement, encode, Instr.length, Instr.code]

theorem bclri32 (rz : BitVec 5) (rx : BitVec 5) (imm5 : BitVec 5) : Statement (.bclri32 rz rx imm5) := by
  simp [Statement, encode, Instr.length, Instr.code]

theorem bseti32 (rz : BitVec 5) (rx : BitVec 5) (imm5 : BitVec 5) : Statement (.bseti32 rz rx imm5) := by
  simp [Statement, encode, Instr.length, Instr.code]

theorem btsti32 (rx : BitVec 5) (imm5 : BitVec 5) : Statement (.btsti32 rx imm5) := by
  simp [Statement, encode, Instr.length, Instr.code]

theorem lsl32 (rz : BitVec 5) (rx : BitVec 5) (ry : BitVec 5) : Statement (.lsl32 rz rx ry) := by
  simp [Statement, encode, Instr.length, Instr.code]

theorem lsr32 (rz : BitVec 5) (rx : BitVec 5) (ry : BitVec 5) : Statement (.lsr32 rz rx ry) := by
  simp [Statement, encode, Instr.length, Instr.code]

theorem asr32 (rz : BitVec 5) (rx : BitVec 5) (ry : BitVec 5) : Statement (.asr32 rz rx ry) := by
  simp [Statement, encode, Instr.length, Instr.code]

theorem rotl32 (rz : BitVec 5) (rx : BitVec 5) (ry : BitVec 5) : Statement (.rotl32 rz rx ry) := by
  simp [Statement, encode, Instr.length, Instr.code]

theorem lsli32 (rz : BitVec 5) (rx : BitVec 5) (imm5 : BitVec 5) : Statement (.lsli32 rz rx imm5) := by
  simp [Statement, encode, Instr.length, Instr.code]

theorem lsri32 (rz : BitVec 5) (rx : BitVec 5) (imm5 : BitVec 5) : Statement (.lsri32 rz rx imm5) := by
  simp [Statement, encode, Instr.length, Instr.code]

theorem asri32 (rz : BitVec 5) (rx : BitVec 5) (imm5 : BitVec 5) : Statement (.asri32 rz rx imm5) := by
  simp [Statement, encode, Instr.length, Instr.code]

theorem rotli32 (rz : BitVec 5) (rx : BitVec 5) (imm5 : BitVec 5) : Statement (.rotli32 rz rx imm5) := by
  simp [Statement, encode, Instr.length, Instr.code]

theorem lslc32 (rz : BitVec 5) (rx : BitVec 5) (imm5 : BitVec 5) : Statement (.lslc32 rz rx imm5) := by
  simp [Statement, encode, Instr.length, Instr.code]

theorem lsrc32 (rz : BitVec 5) (rx : BitVec 5) (imm5 : BitVec 5) : Statement (.lsrc32 rz rx imm5) := by
  simp [Statement, encode, Instr.length, Instr.code]

theorem asrc32 (rz : BitVec 5) (rx : BitVec 5) (imm5 : BitVec 5) : Statement (.asrc32 rz rx imm5) := by
  simp [Statement, encode, Instr.length, Instr.code]

theorem xsr32 (rz : BitVec 5) (rx : BitVec 5) (imm5 : BitVec 5) : Statement (.xsr32 rz rx imm5) := by
  simp [Statement, encode, Instr.length, Instr.code]

theorem bmaski32 (rz : BitVec 5) (imm5 : BitVec 5) : Statement (.bmaski32 rz imm5) := by
  simp [Statement, encode, Instr.length, Instr.code]

theorem xtrb0 (rz : BitVec 5) (rx : BitVec 5) : Statement (.xtrb0 rz rx) := by
  simp [Statement, encode, Instr.length, Instr.code]

theorem xtrb1 (rz : BitVec 5) (rx : BitVec 5) : Statement (.xtrb1 rz rx) := by
  simp [Statement, encode, Instr.length, Instr.code]

theorem xtrb2 (rz : BitVec 5) (rx : BitVec 5) : Statement (.xtrb2 rz rx) := by
  simp [Statement, encode, Instr.length, Instr.code]

theorem xtrb3 (rz : BitVec 5) (rx : BitVec 5) : Statement (.xtrb3 rz rx) := by
  simp [Statement, encode, Instr.length, Instr.code]

theorem ff0 (rz : BitVec 5) (rx : BitVec 5) : Statement (.ff0 rz rx) := by
  simp [Statement, encode, Instr.length, Instr.code]

theorem ff1 (rz : BitVec 5) (rx : BitVec 5) : Statement (.ff1 rz rx) := by
  simp [Statement, encode, Instr.length, Instr.code]

theorem mult32 (rz : BitVec 5) (rx : BitVec 5) (ry : BitVec 5) : Statement (.mult32 rz rx ry) := by
  simp [Statement, encode, Instr.length, Instr.code]

theorem addi32 (rz : BitVec 5) (rx : BitVec 5) (imm12 : BitVec 12) : Statement (.addi32 rz rx imm12) := by
  simp [Statement, encode, Instr.length, Instr.code]

theorem subi32 (rz : BitVec 5) (rx : BitVec 5) (imm12 : BitVec 12) : Statement (.subi32 rz rx imm12) := by
  simp [Statement, encode, Instr.length, Instr.code]

theorem andi32 (rz : BitVec 5) (rx : BitVec 5) (imm12 : BitVec 12) : Statement (.andi32 rz rx imm12) := by
  simp [Statement, encode, Instr.length, Instr.code]

theorem andni32 (rz : BitVec 5) (rx : BitVec 5) (imm12 : BitVec 12) : Statement (.andni32 rz rx imm12) := by
  simp [Statement, encode, Instr.length, Instr.code]

theorem xori32 (rz : BitVec 5) (rx : BitVec 5) (imm12 : BitVec 12) : Statement (.xori32 rz rx imm12) := by
  simp [Statement, encode, Instr.length, Instr.code]

theorem ld32b (rz : BitVec 5) (rx : BitVec 5) (imm12 : BitVec 12) : Statement (.ld32b rz rx imm12) := by
  simp [Statement, encode, Instr.length, Instr.code]

theorem ld32h (rz : BitVec 5) (rx : BitVec 5) (imm12 : BitVec 12) : Statement (.ld32h rz rx imm12) := by
  simp [Statement, encode, Instr.length, Instr.code]

theorem ld32w (rz : BitVec 5) (rx : BitVec 5) (imm12 : BitVec 12) : Statement (.ld32w rz rx imm12) := by
  simp [Statement, encode, Instr.length, Instr.code]

theorem ld32bs (rz : BitVec 5) (rx : BitVec 5) (imm12 : BitVec 12) : Statement (.ld32bs rz rx imm12) := by
  simp [Statement, encode, Instr.length, Instr.code]

theorem ld32hs (rz : BitVec 5) (rx : BitVec 5) (imm12 : BitVec 12) : Statement (.ld32hs rz rx imm12) := by
  simp [Statement, encode, Instr.length, Instr.code]

theorem st32b (rz : BitVec 5) (rx : BitVec 5) (imm12 : BitVec 12) : Statement (.st32b rz rx imm12) := by
  simp [Statement, encode, Instr.length, Instr.code]

theorem st32h (rz : BitVec 5) (rx : BitVec 5) (imm12 : BitVec 12) : Statement (.st32h rz rx imm12) := by
  simp [Statement, encode, Instr.length, Instr.code]

theorem st32w (rz : BitVec 5) (rx : BitVec 5) (imm12 : BitVec 12) : Statement (.st32w rz rx imm12) := by
  simp [Statement, encode, Instr.length, Instr.code]

theorem br32 (offset : BitVec 16) : Statement (.br32 offset) := by
  simp [Statement, encode, Instr.length, Instr.code]

theorem bf32 (offset : BitVec 16) : Statement (.bf32 offset) := by
  simp [Statement, encode, Instr.length, Instr.code]

theorem bt32 (offset : BitVec 16) : Statement (.bt32 offset) := by
  simp [Statement, encode, Instr.length, Instr.code]

theorem movi32 (rz : BitVec 5) (imm16 : BitVec 16) : Statement (.movi32 rz imm16) := by
  simp [Statement, encode, Instr.length, Instr.code]

theorem movih32 (rz : BitVec 5) (imm16 : BitVec 16) : Statement (.movih32 rz imm16) := by
  simp [Statement, encode, Instr.length, Instr.code]

theorem lrw32 (rz : BitVec 5) (offset : BitVec 16) : Statement (.lrw32 rz offset) := by
  simp [Statement, encode, Instr.length, Instr.code]

theorem cmphsi32 (rx : BitVec 5) (imm16 : BitVec 16) : Statement (.cmphsi32 rx imm16) := by
  simp [Statement, encode, Instr.length, Instr.code]

theorem cmplti32 (rx : BitVec 5) (imm16 : BitVec 16) : Statement (.cmplti32 rx imm16) := by
  simp [Statement, encode, Instr.length, Instr.code]

theorem cmpnei32 (rx : BitVec 5) (imm16 : BitVec 16) : Statement (.cmpnei32 rx imm16) := by
  simp [Statement, encode, Instr.length, Instr.code]

theorem ori32 (rz : BitVec 5) (rx : BitVec 5) (imm16 : BitVec 16) : Statement (.ori32 rz rx imm16) := by
  simp [Statement, encode, Instr.length, Instr.code]

theorem bsr32 (offset : BitVec 26) : Statement (.bsr32 offset) := by
  simp [Statement, encode, Instr.length, Instr.code]

theorem ldm32 (ry : BitVec 5) (rx : BitVec 5) (imm5 : BitVec 5) : Statement (.ldm32 ry rx imm5) := by
  simp [Statement, encode, Instr.length, Instr.code]

theorem stm32 (ry : BitVec 5) (rx : BitVec 5) (imm5 : BitVec 5) : Statement (.stm32 ry rx imm5) := by
  simp [Statement, encode, Instr.length, Instr.code]

theorem sync32 : Statement (.sync32) := by
  simp [Statement, encode, Instr.length, Instr.code]

theorem bmset32 : Statement (.bmset32) := by
  simp [Statement, encode, Instr.length, Instr.code]

theorem bmclr32 : Statement (.bmclr32) := by
  simp [Statement, encode, Instr.length, Instr.code]

theorem trap32 (n : BitVec 2) : Statement (.trap32 n) := by
  simp [Statement, encode, Instr.length, Instr.code]

theorem rte32 : Statement (.rte32) := by
  simp [Statement, encode, Instr.length, Instr.code]

theorem stop32 : Statement (.stop32) := by
  simp [Statement, encode, Instr.length, Instr.code]

theorem wait32 : Statement (.wait32) := by
  simp [Statement, encode, Instr.length, Instr.code]

theorem doze32 : Statement (.doze32) := by
  simp [Statement, encode, Instr.length, Instr.code]

theorem mfcr32 (rz : BitVec 5) (crx : BitVec 5) (sel : BitVec 5) : Statement (.mfcr32 rz crx sel) := by
  simp [Statement, encode, Instr.length, Instr.code]

theorem mtcr32 (rx : BitVec 5) (crz : BitVec 5) (sel : BitVec 5) : Statement (.mtcr32 rx crz sel) := by
  simp [Statement, encode, Instr.length, Instr.code]

theorem psrclr32 (imm5 : BitVec 5) : Statement (.psrclr32 imm5) := by
  simp [Statement, encode, Instr.length, Instr.code]

theorem psrset32 (imm5 : BitVec 5) : Statement (.psrset32 imm5) := by
  simp [Statement, encode, Instr.length, Instr.code]

theorem bkpt16 : Statement (.bkpt16) := by
  unfold Statement; decide

theorem lrw16 (rz : BitVec 3) (offset : BitVec 8) : Statement (.lrw16 rz offset) := by
  simp only [Statement, encode, Instr.length, Instr.code, lrw16Code]; split <;> simp

theorem br16 (offset : BitVec 10) : Statement (.br16 offset) := by
  simp [Statement, encode, Instr.length, Instr.code]

theorem bt16 (offset : BitVec 10) : Statement (.bt16 offset) := by
  simp [Statement, encode, Instr.length, Instr.code]

theorem bf16 (offset : BitVec 10) : Statement (.bf16 offset) := by
  simp [Statement, encode, Instr.length, Instr.code]

theorem addi16sp (imm7 : BitVec 7) : Statement (.addi16sp imm7) := by
  simp [Statement, encode, Instr.length, Instr.code]

theorem subi16sp (imm7 : BitVec 7) : Statement (.subi16sp imm7) := by
  simp [Statement, encode, Instr.length, Instr.code]

theorem nie16 : Statement (.nie16) := by
  simp [Statement, encode, Instr.length, Instr.code]

theorem nir16 : Statement (.nir16) := by
  simp [Statement, encode, Instr.length, Instr.code]

theorem ipush16 : Statement (.ipush16) := by
  simp [Statement, encode, Instr.length, Instr.code]

theorem ipop16 : Statement (.ipop16) := by
  simp [Statement, encode, Instr.length, Instr.code]

theorem pop16 (r15 : BitVec 1) (list1 : BitVec 4) : Statement (.pop16 r15 list1) := by
  simp [Statement, encode, Instr.length, Instr.code]

theorem push16 (r15 : BitVec 1) (list1 : BitVec 4) : Statement (.push16 r15 list1) := by
  simp [Statement, encode, Instr.length, Instr.code]

theorem bpop16h (rz : BitVec 3) : Statement (.bpop16h rz) := by
  simp [Statement, encode, Instr.length, Instr.code]

theorem bpop16w (rz : BitVec 3) : Statement (.bpop16w rz) := by
  simp [Statement, encode, Instr.length, Instr.code]

theorem bpush16h (rz : BitVec 3) : Statement (.bpush16h rz) := by
  simp [Statement, encode, Instr.length, Instr.code]

theorem bpush16w (rz : BitVec 3) : Statement (.bpush16w rz) := by
  simp [Statement, encode, Instr.length, Instr.code]

theorem addi16rsp (rz : BitVec 3) (imm8 : BitVec 8) : Statement (.addi16rsp rz imm8) := by
  simp [Statement, encode, Instr.length, Instr.code]

theorem addi16i8 (rz : BitVec 3) (imm8 : BitVec 8) : Statement (.addi16i8 rz imm8) := by
  simp [Statement, encode, Instr.length, Instr.code]

theorem subi16i8 (rz : BitVec 3) (imm8 : BitVec 8) : Statement (.subi16i8 rz imm8) := by
  simp [Statement, encode, Instr.length, Instr.code]

theorem movi16 (rz : BitVec 3) (imm8 : BitVec 8) : Statement (.movi16 rz imm8) := by
  simp [Statement, encode, Instr.length, Instr.code]

theorem cmphsi16 (rx : BitVec 3) (imm5 : BitVec 5) : Statement (.cmphsi16 rx imm5) := by
  simp [Statement, encode, Instr.length, Instr.code]

theorem cmplti16 (rx : BitVec 3) (imm5 : BitVec 5) : Statement (.cmplti16 rx imm5) := by
  simp [Statement, encode, Instr.length, Instr.code]

theorem cmpnei16 (rx : BitVec 3) (imm5 : BitVec 5) : Statement (.cmpnei16 rx imm5) := by
  simp [Statement, encode, Instr.length, Instr.code]

theorem bclri16 (rz : BitVec 3) (imm5 : BitVec 5) : Statement (.bclri16 rz imm5) := by
  simp [Statement, encode, Instr.length, Instr.code]

theorem bseti16 (rz : BitVec 3) (imm5 : BitVec 5) : Statement (.bseti16 rz imm5) := by
  simp [Statement, encode, Instr.length, Instr.code]

theorem btsti16 (rx : BitVec 3) (imm5 : BitVec 5) : Statement (.btsti16 rx imm5) := by
  simp [Statement, encode, Instr.length, Instr.code]

theorem jmpix16 (rx : BitVec 3) (imm2 : BitVec 2) : Statement (.jmpix16 rx imm2) := by
  simp [Statement, encode, Instr.length, Instr.code]

theorem lsli16 (rz : BitVec 3) (rx : BitVec 3) (imm5 : BitVec 5) : Statement (.lsli16 rz rx imm5) := by
  simp [Statement, encode, Instr.length, Instr.code]

theorem lsri16 (rz : BitVec 3) (rx : BitVec 3) (imm5 : BitVec 5) : Statement (.lsri16 rz rx imm5) := by
  simp [Statement, encode, Instr.length, Instr.code]

theorem asri16 (rz : BitVec 3) (rx : BitVec 3) (imm5 : BitVec 5) : Statement (.asri16 rz rx imm5) := by
  simp [Statement, encode, Instr.length, Instr.code]

theorem addu16r3 (rz : BitVec 3) (rx : BitVec 3) (ry : BitVec 3) : Statement (.addu16r3 rz rx ry) := by
  simp [Statement, encode, Instr.length, Instr.code]

theorem subu16r3 (rz : BitVec 3) (rx : BitVec 3) (ry : BitVec 3) : Statement (.subu16r3 rz rx ry) := by
  simp [Statement, encode, Instr.length, Instr.code]

theorem addi16i3 (rz : BitVec 3) (rx : BitVec 3) (imm3 : BitVec 3) : Statement (.addi16i3 rz rx imm3) := by
  simp [Statement, encode, Instr.length, Instr.code]

theorem subi16i3 (rz : BitVec 3) (rx : BitVec 3) (imm3 : BitVec 3) : Statement (.subi16i3 rz rx imm3) := by
  simp [Statement, encode, Instr.length, Instr.code]

theorem addu16 (rz : BitVec 4) (rx : BitVec 4) : Statement (.addu16 rz rx) := by
  simp [Statement, encode, Instr.length, Instr.code]

theorem addc16 (rz : BitVec 4) (rx : BitVec 4) : Statement (.addc16 rz rx) := by
  simp [Statement, encode, Instr.length, Instr.code]

theorem subu16 (rz : BitVec 4) (rx : BitVec 4) : Statement (.subu16 rz rx) := by
  simp [Statement, encode, Instr.length, Instr.code]

theorem subc16 (rz : BitVec 4) (rx : BitVec 4) : Statement (.subc16 rz rx) := by
  simp [Statement, encode, Instr.length, Instr.code]

theorem cmphs16 (rx : BitVec 4) (ry : BitVec 4) : Statement (.cmphs16 rx ry) := by
  simp [Statement, encode, Instr.length, Instr.code]

theorem cmplt16 (rx : BitVec 4) (ry : BitVec 4) : Statement (.cmplt16 rx ry) := by
  simp [Statement, encode, Instr.length, Instr.code]

theorem cmpne16 (rx : BitVec 4) (ry : BitVec 4) : Statement (.cmpne16 rx ry) := by
  simp [Statement, encode, Instr.length, Instr.code]

theorem mvcv16 (rz : BitVec 4) : Statement (.mvcv16 rz) := by
  simp [Statement, encode, Instr.length, Instr.code]

theorem and16 (rz : BitVec 4) (rx : BitVec 4) : Statement (.and16 rz rx) := by
  simp [Statement, encode, Instr.length, Instr.code]

theorem andn16 (rz : BitVec 4) (rx : BitVec 4) : Statement (.andn16 rz rx) := by
  simp [Statement, encode, Instr.length, Instr.code]

theorem tst16 (rx : BitVec 4) (ry : BitVec 4) : Statement (.tst16 rx ry) := by
  simp [Statement, encode, Instr.length, Instr.code]

theorem tstnbz16 (rx : BitVec 4) : Statement (.tstnbz16 rx) := by
  simp [Statement, encode, Instr.length, Instr.code]

theorem or16 (rz : BitVec 4) (rx : BitVec 4) : Statement (.or16 rz rx) := by
  simp [Statement, encode, Instr.length, Instr.code]

theorem xor16 (rz : BitVec 4) (rx : BitVec 4) : Statement (.xor16 rz rx) := by
  simp [Statement, encode, Instr.length, Instr.code]

theorem nor16 (rz : BitVec 4) (rx : BitVec 4) : Statement (.nor16 rz rx) := by
  simp [Statement, encode, Instr.length, Instr.code]

theorem mov16 (rz : BitVec 4) (rx : BitVec 4) : Statement (.mov16 rz rx) := by
  simp [Statement, encode, Instr.length, Instr.code]

theorem lsl16 (rz : BitVec 4) (rx : BitVec 4) : Statement (.lsl16 rz rx) := by
  simp [Statement, encode, Instr.length, Instr.code]

theorem lsr16 (rz : BitVec 4) (rx : BitVec 4) : Statement (.lsr16 rz rx) := by
  simp [Statement, encode, Instr.length, Instr.code]

theorem asr16 (rz : BitVec 4) (rx : BitVec 4) : Statement (.asr16 rz rx) := by
  simp [Statement, encode, Instr.length, Instr.code]

theorem rotl16 (rz : BitVec 4) (rx : BitVec 4) : Statement (.rotl16 rz rx) := by
  simp [Statement, encode, Instr.length, Instr.code]

theorem zextb16 (rz : BitVec 4) (rx : BitVec 4) : Statement (.zextb16 rz rx) := by
  simp [Statement, encode, Instr.length, Instr.code]

theorem zexth16 (rz : BitVec 4) (rx : BitVec 4) : Statement (.zexth16 rz rx) := by
  simp [Statement, encode, Instr.length, Instr.code]

theorem sextb16 (rz : BitVec 4) (rx : BitVec 4) : Statement (.sextb16 rz rx) := by
  simp [Statement, encode, Instr.length, Instr.code]

theorem sexth16 (rz : BitVec 4) (rx : BitVec 4) : Statement (.sexth16 rz rx) := by
  simp [Statement, encode, Instr.length, Instr.code]

theorem jmp16 (rx : BitVec 4) : Statement (.jmp16 rx) := by
  simp [Statement, encode, Instr.length, Instr.code]

theorem jsr16 (rx : BitVec 4) : Statement (.jsr16 rx) := by
  simp [Statement, encode, Instr.length, Instr.code]

theorem revb16 (rz : BitVec 4) (rx : BitVec 4) : Statement (.revb16 rz rx) := by
  simp [Statement, encode, Instr.length, Instr.code]

theorem revh16 (rz : BitVec 4) (rx : BitVec 4) : Statement (.revh16 rz rx) := by
  simp [Statement, encode, Instr.length, Instr.code]

theorem mult16 (rz : BitVec 4) (rx : BitVec 4) : Statement (.mult16 rz rx) := by
  simp [Statement, encode, Instr.length, Instr.code]

theorem ld16b (rz : BitVec 3) (rx : BitVec 3) (imm5 : BitVec 5) : Statement (.ld16b rz rx imm5) := by
  simp [Statement, encode, Instr.length, Instr.code]

theorem ld16h (rz : BitVec 3) (rx : BitVec 3) (imm5 : BitVec 5) : Statement (.ld16h rz rx imm5) := by
  simp [Statement, encode, Instr.length, Instr.code]

theorem ld16w (rz : BitVec 3) (rx : BitVec 3) (imm5 : BitVec 5) : Statement (.ld16w rz rx imm5) := by
  simp [Statement, encode, Instr.length, Instr.code]

theorem st16b (rz : BitVec 3) (rx : BitVec 3) (imm5 : BitVec 5) : Statement (.st16b rz rx imm5) := by
  simp [Statement, encode, Instr.length, Instr.code]

theorem st16h (rz : BitVec 3) (rx : BitVec 3) (imm5 : BitVec 5) : Statement (.st16h rz rx imm5) := by
  simp [Statement, encode, Instr.length, Instr.code]

theorem st16w (rz : BitVec 3) (rx : BitVec 3) (imm5 : BitVec 5) : Statement (.st16w rz rx imm5) := by
  simp [Statement, encode, Instr.length, Instr.code]

theorem ld16wsp (rz : BitVec 3) (imm8 : BitVec 8) : Statement (.ld16wsp rz imm8) := by
  simp [Statement, encode, Instr.length, Instr.code]

theorem st16wsp (rz : BitVec 3) (imm8 : BitVec 8) : Statement (.st16wsp rz imm8) := by
  simp [Statement, encode, Instr.length, Instr.code]

end Sys2Proof.Laws.LengthMark
end

