-- ==== Sys2Proof/Tests/Slice0.lean ====
section
/-! SUPPORT. Tests. Every expected result comes from the spec: the encodings and examples of 40_addsub to 47_system, the
vectors of 95_test_vectors. Each step test is one step of a small state. At the end, a state and operands for the
hypotheses of each statement of Certificates/Slice0/Obligations.lean. -/

set_option Elab.async false

namespace Sys2Proof.Tests

open Sys2Proof.Machine

/-! ### Ill-formed terms are refused -/

/-- 30_encoding R143. -/
theorem test_wf_lrw16 : (Instr.lrw16 0 255).WellFormed = false ∧ (Instr.lrw16 0 254).WellFormed = true := by decide

/-- 46_loadstore R455. -/
theorem test_wf_push16 : (Instr.push16 0 9).WellFormed = false ∧ (Instr.push16 1 8).WellFormed = true := by decide

/-- 46_loadstore R455. -/
theorem test_wf_pop16 : (Instr.pop16 1 15).WellFormed = false ∧ (Instr.pop16 0 0).WellFormed = true := by decide

/-- 47_system R494. -/
theorem test_wf_psrset32 : (Instr.psrset32 16).WellFormed = false ∧ (Instr.psrset32 15).WellFormed = true := by decide

/-- 47_system R495. -/
theorem test_wf_psrclr32 : (Instr.psrclr32 31).WellFormed = false ∧ (Instr.psrclr32 12).WellFormed = true := by decide

/-! ### Every constructor's decoding, from a word of the spec -/

/-- Each word, of so many bits, decodes to the instruction beside it. -/
def reads (rows : List (Nat × Nat × Instr)) : Bool := rows.all fun r => decodeTableWord r.1 r.2.1 == some r.2.2

/-- The examples of 40_addsub, and its rules where it has none. -/
theorem test_decode_arith : reads [
    (32, 0b11000100010000010000000000100011, .addu32 3 1 2),
    (32, 0b11000100010000010000000001000011, .addc32 3 1 2),
    (32, 0b11000100010000010000000010000011, .subu32 3 1 2),
    (32, 0b11000100010000010000000100000011, .subc32 3 1 2),
    (32, 0b11000100010000010000100000100011, .ixh32 3 1 2),
    (32, 0b11000100010000010000100001000011, .ixw32 3 1 2),
    (32, 0b11000100011000010000110000100101, .incf32 3 1 5),
    (32, 0b11000100011000010000110001000101, .inct32 3 1 5),
    (32, 0b11000100011000010000110010000101, .decf32 3 1 5),
    (32, 0b11000100011000010000110100000101, .dect32 3 1 5),
    (32, 0b11100100011000010000000011111111, .addi32 3 1 255),
    (32, 0b11100100011000010001000011111111, .subi32 3 1 255),
    (16, 0b0001011100011111, .addi16sp 127),
    (16, 0b0001010000100010, .subi16sp 2),
    (16, 0b0001101100000100, .addi16rsp 3 4),
    (16, 0b0010001111111111, .addi16i8 3 255),
    (16, 0b0010101100000000, .subi16i8 3 0),
    (16, 0b0101100101101000, .addu16r3 3 1 2),
    (16, 0b0101100101101001, .subu16r3 3 1 2),
    (16, 0b0101100101111110, .addi16i3 3 1 7),
    (16, 0b0101100101111111, .subi16i3 3 1 7),
    (16, 0b0110000011000100, .addu16 3 1),
    (16, 0b0110000011000101, .addc16 3 1),
    (16, 0b0110000011000110, .subu16 3 1),
    (16, 0b0110000011000111, .subc16 3 1)] := by decide

/-- The examples of 41_logic, and its rules where it has none. -/
theorem test_decode_logic : reads [
    (32, 0b11000100010000010010000000100011, .and32 3 1 2),
    (32, 0b11000100010000010010000001000011, .andn32 3 1 2),
    (32, 0b11000100010000010010010000100011, .or32 3 1 2),
    (32, 0b11000100010000010010010001000011, .xor32 3 1 2),
    (32, 0b11000100010000010010010010000011, .nor32 3 1 2),
    (32, 0b11100100011000010010111100001111, .andi32 3 1 3855),
    (32, 0b11100100011000010011111100001111, .andni32 3 1 3855),
    (32, 0b11100100011000010100111100001111, .xori32 3 1 3855),
    (32, 0b11101100011000011010101111001101, .ori32 3 1 43981),
    (16, 0b0110100011000100, .and16 3 1),
    (16, 0b0110100011000101, .andn16 3 1),
    (16, 0b0110110011000100, .or16 3 1),
    (16, 0b0110110011000101, .xor16 3 1),
    (16, 0b0110110011000110, .nor16 3 1)] := by decide

/-- The examples of 42_shift, and its rules where it has none. -/
theorem test_decode_shift : reads [
    (32, 0b11000100010000010100000000100011, .lsl32 3 1 2),
    (32, 0b11000100010000010100000001000011, .lsr32 3 1 2),
    (32, 0b11000100010000010100000010000011, .asr32 3 1 2),
    (32, 0b11000100010000010100000100000011, .rotl32 3 1 2),
    (32, 0b11000100100000010100100000100011, .lsli32 3 1 4),
    (32, 0b11000100100000010100100001000011, .lsri32 3 1 4),
    (32, 0b11000100100000010100100010000011, .asri32 3 1 4),
    (32, 0b11000100100000010100100100000011, .rotli32 3 1 4),
    (32, 0b11000100000000010100110000100011, .lslc32 3 1 0),
    (32, 0b11000100000000010100110001000011, .lsrc32 3 1 0),
    (32, 0b11000100000000010100110010000011, .asrc32 3 1 0),
    (32, 0b11000100000000010100110100000011, .xsr32 3 1 0),
    (16, 0b0100000101100100, .lsli16 3 1 4),
    (16, 0b0100100101100100, .lsri16 3 1 4),
    (16, 0b0101000101100100, .asri16 3 1 4),
    (16, 0b0111000011000100, .lsl16 3 1),
    (16, 0b0111000011000101, .lsr16 3 1),
    (16, 0b0111000011000110, .asr16 3 1),
    (16, 0b0111000011000111, .rotl16 3 1)] := by decide

/-- The examples of 43_compare, and its rules where it has none. -/
theorem test_decode_compare : reads [
    (32, 0b11101011000000011111111111111111, .cmphsi32 1 65535),
    (32, 0b11101011001000010000111111111111, .cmplti32 1 4095),
    (32, 0b11101011010000010001000000000000, .cmpnei32 1 4096),
    (16, 0b0011100100001001, .cmphsi16 1 9),
    (16, 0b0011100100101001, .cmplti16 1 9),
    (16, 0b0011100101001010, .cmpnei16 1 10),
    (16, 0b0110010010000100, .cmphs16 1 2),
    (16, 0b0110010010000101, .cmplt16 1 2),
    (16, 0b0110010010000110, .cmpne16 1 2),
    (16, 0b0110100010000110, .tst16 1 2),
    (16, 0b0110100000000111, .tstnbz16 1)] := by decide

/-- The examples of 44_move_bit_extract, and its rules where it has none. -/
theorem test_decode_move : reads [
    (32, 0b11000100000000000000010100000011, .mvc32 3),
    (16, 0b0110010011000011, .mvcv16 3),
    (32, 0b11101010000000111010101111001101, .movi32 3 43981),
    (32, 0b11101010001000110001001000110100, .movih32 3 4660),
    (16, 0b0011001110101011, .movi16 3 171),
    (16, 0b0110110011000111, .mov16 3 1),
    (32, 0b11101010100000110000000000000100, .lrw32 3 4),
    (16, 0b0001000001100100, .lrw16 3 4),
    (32, 0b11000111111000010010100000100011, .bclri32 3 1 31),
    (32, 0b11000111111000010010100001000011, .bseti32 3 1 31),
    (32, 0b11000111111000010010100010000000, .btsti32 1 31),
    (16, 0b0011101110000101, .bclri16 3 5),
    (16, 0b0011101110100101, .bseti16 3 5),
    (16, 0b0011101111000101, .btsti16 3 5),
    (32, 0b11000111111000000101000000100011, .bmaski32 3 31),
    (32, 0b11000100010000011000010000100011, .mult32 3 1 2),
    (16, 0b0111110011000100, .mult16 3 1)] := by decide

/-- The examples of 44_move_bit_extract, and its rules where it has none. -/
theorem test_decode_extract : reads [
    (32, 0b11000100000000010111000000100011, .xtrb0 3 1),
    (32, 0b11000100000000010111000001000011, .xtrb1 3 1),
    (32, 0b11000100000000010111000010000011, .xtrb2 3 1),
    (32, 0b11000100000000010111000100000011, .xtrb3 3 1),
    (32, 0b11000100000000010111110000100011, .ff0 3 1),
    (32, 0b11000100000000010111110001000011, .ff1 3 1),
    (16, 0b0111010011000100, .zextb16 3 1),
    (16, 0b0111010011000101, .zexth16 3 1),
    (16, 0b0111010011000110, .sextb16 3 1),
    (16, 0b0111010011000111, .sexth16 3 1),
    (16, 0b0111100011000110, .revb16 3 1),
    (16, 0b0111100011000111, .revh16 3 1)] := by decide

/-- The examples of 45_branch, and its rules where it has none. -/
theorem test_decode_branch : reads [
    (32, 0b11101000000000000000100000000000, .br32 2048),
    (32, 0b11101000010000000111111111111111, .bf32 32767),
    (32, 0b11101000011000001000000000000000, .bt32 32768),
    (32, 0b11100000000000000000000010000000, .bsr32 128),
    (16, 0b0000010000000100, .br16 4),
    (16, 0b0000100000000100, .bt16 4),
    (16, 0b0000111111111101, .bf16 1021),
    (16, 0b0111100000001100, .jmp16 3),
    (16, 0b0111100000001101, .jsr16 3),
    (16, 0b0011101111100001, .jmpix16 3 1)] := by decide

/-- The examples of 46_loadstore, and its rules where it has none. -/
theorem test_decode_loadstore : reads [
    (32, 0b11011000001000100000000100100011, .ld32b 1 2 291),
    (32, 0b11011000001000100001000010000000, .ld32h 1 2 128),
    (32, 0b11011000001000100010111111111111, .ld32w 1 2 4095),
    (32, 0b11011000001000100100000000000001, .ld32bs 1 2 1),
    (32, 0b11011000001000100101000000000001, .ld32hs 1 2 1),
    (32, 0b11011100001000100000000100100011, .st32b 1 2 291),
    (32, 0b11011100001000100001000010000000, .st32h 1 2 128),
    (32, 0b11011100001000100010111111111111, .st32w 1 2 4095),
    (16, 0b1000001000100011, .ld16b 1 2 3),
    (16, 0b1000101000100011, .ld16h 1 2 3),
    (16, 0b1001001000100010, .ld16w 1 2 2),
    (16, 0b1010001000100011, .st16b 1 2 3),
    (16, 0b1010101000100011, .st16h 1 2 3),
    (16, 0b1011001000100010, .st16w 1 2 2),
    (16, 0b1001100100100001, .ld16wsp 1 33),
    (16, 0b1011100100100001, .st16wsp 1 33)] := by decide

/-- The examples of 46_loadstore, and its rules where it has none. -/
theorem test_decode_multiple : reads [
    (32, 0b11010000100000010001110000100011, .ldm32 4 1 3),
    (32, 0b11010100100000010001110000100011, .stm32 4 1 3),
    (16, 0b0001010011000001, .push16 0 1),
    (16, 0b0001010010010100, .pop16 1 4),
    (16, 0b0001010001100010, .ipush16),
    (16, 0b0001010001100011, .ipop16),
    (16, 0b0001010011101100, .bpush16h 3),
    (16, 0b0001010011101110, .bpush16w 3),
    (16, 0b0001010010101100, .bpop16h 3),
    (16, 0b0001010010101110, .bpop16w 3)] := by decide

/-- The examples of 47_system, and its rules where it has none. -/
theorem test_decode_system : reads [
    (32, 0b11000000000001000110000000100011, .mfcr32 3 4 0),
    (32, 0b11000000000000010110010000100000, .mtcr32 1 0 0),
    (32, 0b11000001100000000111010000100000, .psrset32 12),
    (32, 0b11000000100000000111000000100000, .psrclr32 4),
    (32, 0b11000000000000000100000000100000, .rte32),
    (16, 0b0001010001100000, .nie16),
    (16, 0b0001010001100001, .nir16),
    (32, 0b11000000000000000100110000100000, .wait32),
    (32, 0b11000000000000000101000000100000, .doze32),
    (32, 0b11000000000000000100100000100000, .stop32),
    (32, 0b11000000000000000010110000100000, .trap32 3),
    (32, 0b11000000000000000000010000100000, .sync32),
    (32, 0b11000000000000000001000000100000, .bmset32),
    (32, 0b11000000000000000001010000100000, .bmclr32),
    (16, 0b0000000000000000, .bkpt16)] := by decide

/-- No instruction: 30_encoding R155, R156. -/
theorem test_decode_illegal : decodeTableWord 16 0x1464 = none ∧ decodeTableWord 32 0xC4000000 = none ∧
    decodeTableWord 16 0x14C9 = none ∧ decodeTableWord 32 0xC2007420 = none := by decide

/-! ### One step of every instruction -/

/-- The configuration of the vectors: that of reset without the binary code translation mechanism. -/
def config : Config := { Config.atReset with hasBctm := false }

/-- The state of the vectors (95_test_vectors): PC 0x1000, PSR 0x80000100, and the registers given. -/
def blank (regs : List (Slot × Word)) : State :=
  regs.foldl (fun s r => s.setReg r.1 r.2)
    { State.reset with resetPhase := .running, pc := 0x1000, psr := Psr.ofWord true 0x80000100, cfg := config }

/-- The same with values in memory, little endian. -/
def start (regs : List (Slot × Word)) (values : List (Word × Width × Word)) : State :=
  { blank regs with mem := values.foldl (fun m r => m.store false r.1 r.2.1 r.2.2) [] }

/-- The state of the MPU vectors. -/
def guarded (regs : List (Slot × Word)) (values : List (Word × Width × Word)) : State :=
  { start regs ((8, .word, 0x4100) :: values) with
    mp := 1, capr := 0xC900, pacr := #v[0x3F, 0x20000019, 0x20001015, 0x20001815, 0, 0, 0, 0] }

/-- One step on a word of the opcode table. -/
def run (s : State) (nbits w : Nat) : Outcome := step (s.withFetchWord nbits w)

/-- The outcome is a next state with a property. -/
def ends (o : Outcome) (p : State → Bool) : Bool :=
  match o with
  | .next t => p t
  | .fault _ => false
  | .refused _ => false

/-- The outcome is a refusal. -/
def refuses (o : Outcome) : Bool :=
  match o with
  | .next _ => false
  | .fault _ => false
  | .refused _ => true

/-- 95_test_vectors V40.1. -/
theorem test_addu32 :
    ends (run ((start [(1, 0xFFFFFFFF), (2, 2)] []).setC true) 32 0xC4410023) fun t =>
      t.reg 3 == 1 && t.psr.c && t.pc == 0x1004 := by decide +kernel

/-- 95_test_vectors V40.6. -/
theorem test_addc32 :
    ends (run ((start [(1, 0x7FFFFFFF), (2, 0x7FFFFFFF)] []).setC true) 32 0xC4410043) fun t =>
      t.reg 3 == 0xFFFFFFFF && !t.psr.c && t.pc == 0x1004 := by decide +kernel

/-- 95_test_vectors V40.7. -/
theorem test_addc32_b :
    ends (run ((start [(1, 0xFFFFFFFF), (2, 0xFFFFFFFF)] []).setC true) 32 0xC4410043) fun t =>
      t.reg 3 == 0xFFFFFFFF && t.psr.c && t.pc == 0x1004 := by decide +kernel

/-- 95_test_vectors V40.20. -/
theorem test_subu32 :
    ends (run ((start [(1, 0), (2, 1)] []).setC true) 32 0xC4410083) fun t =>
      t.reg 3 == 0xFFFFFFFF && t.psr.c && t.pc == 0x1004 := by decide +kernel

/-- 95_test_vectors V40.25. -/
theorem test_subc32 :
    ends (run (start [(1, 5), (2, 3)] []) 32 0xC4410103) fun t =>
      t.reg 3 == 1 && t.psr.c && t.pc == 0x1004 := by decide +kernel

/-- 95_test_vectors V40.28. -/
theorem test_subc32_b :
    ends (run ((start [(1, 0x80000000), (2, 0xFFFFFFFF)] []).setC true) 32 0xC4410103) fun t =>
      t.reg 3 == 0x80000001 && !t.psr.c && t.pc == 0x1004 := by decide +kernel

/-- 95_test_vectors V44.11. -/
theorem test_mvc32 :
    ends (run ((start [] []).setC true) 32 0xC4000503) fun t =>
      t.reg 3 == 1 && t.psr.c && t.pc == 0x1004 := by decide +kernel

/-- 95_test_vectors V40.38. -/
theorem test_ixh32 :
    ends (run (start [(1, 0x1000), (2, 3)] []) 32 0xC4410823) fun t =>
      t.reg 3 == 0x1006 && t.pc == 0x1004 := by decide +kernel

/-- 95_test_vectors V40.40. -/
theorem test_ixw32 :
    ends (run (start [(1, 0x1000), (2, 3)] []) 32 0xC4410843) fun t =>
      t.reg 3 == 0x100C && t.pc == 0x1004 := by decide +kernel

/-- 95_test_vectors V40.42. -/
theorem test_incf32 :
    ends (run (start [(1, 0xA), (3, 0x99)] []) 32 0xC4610C25) fun t =>
      t.reg 3 == 0xF && !t.psr.c && t.pc == 0x1004 := by decide +kernel

/-- 95_test_vectors V40.43. -/
theorem test_incf32_b :
    ends (run ((start [(1, 0xA), (3, 0x99)] []).setC true) 32 0xC4610C25) fun t =>
      t.reg 3 == 0x99 && t.psr.c && t.pc == 0x1004 := by decide +kernel

/-- 95_test_vectors V40.45. -/
theorem test_inct32 :
    ends (run ((start [(1, 0xFFFFFFFF), (3, 0x99)] []).setC true) 32 0xC4610C5F) fun t =>
      t.reg 3 == 0x1E && t.pc == 0x1004 := by decide +kernel

/-- 95_test_vectors V40.46. -/
theorem test_inct32_b :
    ends (run (start [(1, 0xA), (3, 0x99)] []) 32 0xC4610C45) fun t =>
      t.reg 3 == 0x99 && t.pc == 0x1004 := by decide +kernel

/-- 95_test_vectors V40.47. -/
theorem test_decf32 :
    ends (run (start [(1, 0xA), (3, 0x99)] []) 32 0xC4610C85) fun t =>
      t.reg 3 == 5 && t.pc == 0x1004 := by decide +kernel

/-- 95_test_vectors V40.49. -/
theorem test_dect32 :
    ends (run ((start [(1, 0xA), (3, 0x99)] []).setC true) 32 0xC4610D05) fun t =>
      t.reg 3 == 5 && t.pc == 0x1004 := by decide +kernel

/-- 95_test_vectors V40.50. -/
theorem test_dect32_b :
    ends (run (start [(1, 0xA), (3, 0x99)] []) 32 0xC4610D05) fun t =>
      t.reg 3 == 0x99 && t.pc == 0x1004 := by decide +kernel

/-- 95_test_vectors V41.1. -/
theorem test_and32 :
    ends (run (start [(1, 0xFF00FF00), (2, 0xFF00FF0)] []) 32 0xC4412023) fun t =>
      t.reg 3 == 0xF000F00 && t.pc == 0x1004 := by decide +kernel

/-- 95_test_vectors V41.5. -/
theorem test_andn32 :
    ends (run (start [(1, 0xFFFF0000), (2, 0xFF00FF00)] []) 32 0xC4412043) fun t =>
      t.reg 3 == 0xFF0000 && t.pc == 0x1004 := by decide +kernel

/-- 95_test_vectors V41.8. -/
theorem test_or32 :
    ends (run (start [(1, 0xF0F00000), (2, 0xA5A5)] []) 32 0xC4412423) fun t =>
      t.reg 3 == 0xF0F0A5A5 && t.pc == 0x1004 := by decide +kernel

/-- 95_test_vectors V41.12. -/
theorem test_xor32 :
    ends (run (start [(1, 0xFFFF0000), (2, 0xFF00FF00)] []) 32 0xC4412443) fun t =>
      t.reg 3 == 0xFFFF00 && t.pc == 0x1004 := by decide +kernel

/-- 95_test_vectors V41.15. -/
theorem test_nor32 :
    ends (run (start [(1, 0xFFFF0000), (2, 0xFF00)] []) 32 0xC4412483) fun t =>
      t.reg 3 == 0xFF && t.pc == 0x1004 := by decide +kernel

/-- 95_test_vectors V44.21. -/
theorem test_bclri32 :
    ends (run (start [(1, 0x80000001)] []) 32 0xC7E12823) fun t =>
      t.reg 3 == 1 && t.pc == 0x1004 := by decide +kernel

/-- 95_test_vectors V44.23. -/
theorem test_bseti32 :
    ends (run (start [(1, 1)] []) 32 0xC7E12843) fun t =>
      t.reg 3 == 0x80000001 && t.pc == 0x1004 := by decide +kernel

/-- 95_test_vectors V44.26. -/
theorem test_btsti32 :
    ends (run (start [(1, 0x80000000)] []) 32 0xC7E12880) fun t =>
      t.psr.c && t.pc == 0x1004 := by decide +kernel

/-- 95_test_vectors V42.6. -/
theorem test_lsl32 :
    ends (run (start [(1, 0x80000001), (2, 0xFFFFFF44)] []) 32 0xC4414023) fun t =>
      t.reg 3 == 0x10 && t.pc == 0x1004 := by decide +kernel

/-- 95_test_vectors V42.4. -/
theorem test_lsl32_b :
    ends (run (start [(1, 0x80000001), (2, 0x20)] []) 32 0xC4414023) fun t =>
      t.reg 3 == 0 && t.pc == 0x1004 := by decide +kernel

/-- 95_test_vectors V42.18. -/
theorem test_lsr32 :
    ends (run (start [(1, 0x80000001), (2, 0x20)] []) 32 0xC4414043) fun t =>
      t.reg 3 == 0 && t.pc == 0x1004 := by decide +kernel

/-- 95_test_vectors V42.19. -/
theorem test_lsr32_b :
    ends (run (start [(1, 0x80000001), (2, 0x40)] []) 32 0xC4414043) fun t =>
      t.reg 3 == 0x80000001 && t.pc == 0x1004 := by decide +kernel

/-- 95_test_vectors V42.32. -/
theorem test_asr32 :
    ends (run (start [(1, 0x80000000), (2, 0x28)] []) 32 0xC4414083) fun t =>
      t.reg 3 == 0xFFFFFFFF && t.pc == 0x1004 := by decide +kernel

/-- 95_test_vectors V42.34. -/
theorem test_asr32_b :
    ends (run (start [(1, 0x80000000), (2, 0x40)] []) 32 0xC4414083) fun t =>
      t.reg 3 == 0x80000000 && t.pc == 0x1004 := by decide +kernel

/-- 95_test_vectors V42.43. -/
theorem test_rotl32 :
    ends (run (start [(1, 0x80000001), (2, 4)] []) 32 0xC4414103) fun t =>
      t.reg 3 == 0x18 && t.pc == 0x1004 := by decide +kernel

/-- 95_test_vectors V42.46. -/
theorem test_rotl32_b :
    ends (run (start [(1, 0x80000001), (2, 0x20)] []) 32 0xC4414103) fun t =>
      t.reg 3 == 0 && t.pc == 0x1004 := by decide +kernel

/-- 95_test_vectors V42.8. -/
theorem test_lsli32 :
    ends (run (start [(1, 0x12345678)] []) 32 0xC4814823) fun t =>
      t.reg 3 == 0x23456780 && t.pc == 0x1004 := by decide +kernel

/-- 95_test_vectors V42.10. -/
theorem test_lsli32_b :
    ends (run (start [(1, 0x12345679)] []) 32 0xC7E14823) fun t =>
      t.reg 3 == 0x80000000 && t.pc == 0x1004 := by decide +kernel

/-- 95_test_vectors V42.21. -/
theorem test_lsri32 :
    ends (run (start [(1, 0x12345678)] []) 32 0xC4814843) fun t =>
      t.reg 3 == 0x1234567 && t.pc == 0x1004 := by decide +kernel

/-- 95_test_vectors V42.36. -/
theorem test_asri32 :
    ends (run (start [(1, 0x87654321)] []) 32 0xC4814883) fun t =>
      t.reg 3 == 0xF8765432 && t.pc == 0x1004 := by decide +kernel

/-- 95_test_vectors V42.48. -/
theorem test_rotli32 :
    ends (run (start [(1, 0x12345678)] []) 32 0xC4814903) fun t =>
      t.reg 3 == 0x23456781 && t.pc == 0x1004 := by decide +kernel

/-- 95_test_vectors V42.13. -/
theorem test_lslc32 :
    ends (run ((start [(1, 0x18000000)] []).setC true) 32 0xC4614C23) fun t =>
      t.reg 3 == 0x80000000 && t.psr.c && t.pc == 0x1004 := by decide +kernel

/-- 95_test_vectors V42.15. -/
theorem test_lslc32_b :
    ends (run ((start [(1, 0x80000000)] []).setC true) 32 0xC7E14C23) fun t =>
      t.reg 3 == 0 && !t.psr.c && t.pc == 0x1004 := by decide +kernel

/-- 95_test_vectors V42.26. -/
theorem test_lsrc32 :
    ends (run ((start [(1, 0x17)] []).setC true) 32 0xC4614C43) fun t =>
      t.reg 3 == 1 && !t.psr.c && t.pc == 0x1004 := by decide +kernel

/-- 95_test_vectors V42.28. -/
theorem test_lsrc32_b :
    ends (run ((start [(1, 0x7FFFFFFF)] []).setC true) 32 0xC7E14C43) fun t =>
      t.reg 3 == 0 && !t.psr.c && t.pc == 0x1004 := by decide +kernel

/-- 95_test_vectors V42.40. -/
theorem test_asrc32 :
    ends (run (start [(1, 0x80000001)] []) 32 0xC4014C83) fun t =>
      t.reg 3 == 0xC0000000 && t.psr.c && t.pc == 0x1004 := by decide +kernel

/-- 95_test_vectors V42.42. -/
theorem test_asrc32_b :
    ends (run ((start [(1, 0x7FFFFFFF)] []).setC true) 32 0xC7E14C83) fun t =>
      t.reg 3 == 0 && !t.psr.c && t.pc == 0x1004 := by decide +kernel

/-- 95_test_vectors V42.53. -/
theorem test_xsr32 :
    ends (run ((start [(1, 0x12345678)] []).setC true) 32 0xC4614D03) fun t =>
      t.reg 3 == 0x11234567 && t.psr.c && t.pc == 0x1004 := by decide +kernel

/-- 95_test_vectors V42.55. -/
theorem test_xsr32_b :
    ends (run ((start [(1, 0)] []).setC true) 32 0xC7E14D03) fun t =>
      t.reg 3 == 1 && !t.psr.c && t.pc == 0x1004 := by decide +kernel

/-- 95_test_vectors V44.28. -/
theorem test_bmaski32 :
    ends (run (start [] []) 32 0xC6005023) fun t =>
      t.reg 3 == 0x1FFFF && t.pc == 0x1004 := by decide +kernel

/-- 95_test_vectors V44.40. -/
theorem test_xtrb0 :
    ends (run (start [(1, 0x12003456)] []) 32 0xC4017023) fun t =>
      t.reg 3 == 0x12 && t.psr.c && t.pc == 0x1004 := by decide +kernel

/-- 95_test_vectors V44.41. -/
theorem test_xtrb1 :
    ends (run ((start [(1, 0x12003456)] []).setC true) 32 0xC4017043) fun t =>
      t.reg 3 == 0 && !t.psr.c && t.pc == 0x1004 := by decide +kernel

/-- 95_test_vectors V44.42. -/
theorem test_xtrb2 :
    ends (run (start [(1, 0x12003456)] []) 32 0xC4017083) fun t =>
      t.reg 3 == 0x34 && t.psr.c && t.pc == 0x1004 := by decide +kernel

/-- 95_test_vectors V44.43. -/
theorem test_xtrb3 :
    ends (run (start [(1, 0x12003456)] []) 32 0xC4017103) fun t =>
      t.reg 3 == 0x56 && t.psr.c && t.pc == 0x1004 := by decide +kernel

/-- 95_test_vectors V44.46. -/
theorem test_ff0 :
    ends (run (start [(1, 0xF0FFFFFF)] []) 32 0xC4017C23) fun t =>
      t.reg 3 == 4 && t.pc == 0x1004 := by decide +kernel

/-- 95_test_vectors V44.50. -/
theorem test_ff1 :
    ends (run (start [(1, 0x80000000)] []) 32 0xC4017C43) fun t =>
      t.reg 3 == 0 && t.pc == 0x1004 := by decide +kernel

/-- 95_test_vectors V44.53. -/
theorem test_mult32 :
    ends (run (start [(1, 0xFFFFFFFF), (2, 0xFFFFFFFF)] []) 32 0xC4418423) fun t =>
      t.reg 3 == 1 && t.pc == 0x1004 := by decide +kernel

/-- 95_test_vectors V40.12. -/
theorem test_addi32 :
    ends (run (start [(1, 0)] []) 32 0xE4610FFF) fun t =>
      t.reg 3 == 0x1000 && t.pc == 0x1004 := by decide +kernel

/-- 95_test_vectors V40.30. -/
theorem test_subi32 :
    ends (run (start [(1, 0x80)] []) 32 0xE46110FF) fun t =>
      t.reg 3 == 0xFFFFFF80 && t.pc == 0x1004 := by decide +kernel

/-- 95_test_vectors V41.3. -/
theorem test_andi32 :
    ends (run (start [(1, 0xFFFFFFFF)] []) 32 0xE4612F0F) fun t =>
      t.reg 3 == 0xF0F && t.pc == 0x1004 := by decide +kernel

/-- 95_test_vectors V41.7. -/
theorem test_andni32 :
    ends (run (start [(1, 0xFFFFFFFF)] []) 32 0xE4613F0F) fun t =>
      t.reg 3 == 0xFFFFF0F0 && t.pc == 0x1004 := by decide +kernel

/-- 95_test_vectors V41.14. -/
theorem test_xori32 :
    ends (run (start [(1, 0xFFFFFFFF)] []) 32 0xE4614F0F) fun t =>
      t.reg 3 == 0xFFFFF0F0 && t.pc == 0x1004 := by decide +kernel

/-- 95_test_vectors V46.3. -/
theorem test_ld32b :
    ends (run (start [(2, 0x2000)] [(0x2123, .byte, 0xFE)]) 32 0xD8220123) fun t =>
      t.reg 1 == 0xFE && t.pc == 0x1004 := by decide +kernel

/-- 95_test_vectors V46.7. -/
theorem test_ld32h :
    ends (run (start [(2, 0x2000)] [(0x2100, .byte, 0x34), (0x2101, .byte, 0x12)]) 32 0xD8221080) fun t =>
      t.reg 1 == 0x1234 && t.pc == 0x1004 := by decide +kernel

/-- 95_test_vectors V46.13. -/
theorem test_ld32w :
    ends (run (start [(2, 0x2000)] [(0x5FFC, .word, 0xBADF00D)]) 32 0xD8222FFF) fun t =>
      t.reg 1 == 0xBADF00D && t.pc == 0x1004 := by decide +kernel

/-- 95_test_vectors V46.4. -/
theorem test_ld32bs :
    ends (run (start [(2, 0x2000)] [(0x2001, .byte, 0x80)]) 32 0xD8224001) fun t =>
      t.reg 1 == 0xFFFFFF80 && t.pc == 0x1004 := by decide +kernel

/-- 95_test_vectors V46.9. -/
theorem test_ld32hs :
    ends (run (start [(2, 0x2000)] [(0x2002, .half, 0x8001)]) 32 0xD8225001) fun t =>
      t.reg 1 == 0xFFFF8001 && t.pc == 0x1004 := by decide +kernel

/-- 95_test_vectors V46.17. -/
theorem test_st32b :
    ends (run (start [(1, 0x12345678), (2, 0x2000)] []) 32 0xDC220123) fun t =>
      t.mem.load t.cfg.bigEndian 0x2123 .byte == 0x78 && t.pc == 0x1004 := by decide +kernel

/-- 95_test_vectors V46.20. -/
theorem test_st32h :
    ends (run (start [(1, 0x12345678), (2, 0x2000)] []) 32 0xDC221080) fun t =>
      t.mem.load t.cfg.bigEndian 0x2100 .half == 0x5678 && t.pc == 0x1004 := by decide +kernel

/-- 95_test_vectors V46.24. -/
theorem test_st32w :
    ends (run (start [(1, 0xCAFEBABE), (2, 0x2000)] []) 32 0xDC222FFF) fun t =>
      t.mem.load t.cfg.bigEndian 0x5FFC .word == 0xCAFEBABE && t.pc == 0x1004 := by decide +kernel

/-- 95_test_vectors V45.13. -/
theorem test_br32 :
    ends (run { start [] [] with pc := 0x2000 } 32 0xE8000800) fun t =>
      t.pc == 0x3000 := by decide +kernel

/-- 95_test_vectors V45.6. -/
theorem test_bf32 :
    ends (run { start [] [] with pc := 0x100 } 32 0xE8407FFF) fun t =>
      t.pc == 0x100FE := by decide +kernel

/-- 95_test_vectors V45.3. -/
theorem test_bt32 :
    ends (run { (start [] []).setC true with pc := 0x20000 } 32 0xE8608000) fun t =>
      t.pc == 0x10000 := by decide +kernel

/-- 95_test_vectors V44.9. -/
theorem test_movi32 :
    ends (run (start [(3, 0xFFFFFFFF)] []) 32 0xEA03ABCD) fun t =>
      t.reg 3 == 0xABCD && t.pc == 0x1004 := by decide +kernel

/-- 95_test_vectors V44.10. -/
theorem test_movih32 :
    ends (run (start [(3, 0xFFFFFFFF)] []) 32 0xEA231234) fun t =>
      t.reg 3 == 0x12340000 && t.pc == 0x1004 := by decide +kernel

/-- 95_test_vectors V44.15. -/
theorem test_lrw32 :
    ends (run (start [] [(0x1010, .word, 0xCAFEF00D)]) 32 0xEA830004) fun t =>
      t.reg 3 == 0xCAFEF00D && t.pc == 0x1004 := by decide +kernel

/-- 95_test_vectors V43.14. -/
theorem test_cmphsi32 :
    ends (run ((start [(1, 0xFFFF)] []).setC true) 32 0xEB01FFFF) fun t =>
      !t.psr.c && t.pc == 0x1004 := by decide +kernel

/-- 95_test_vectors V43.23. -/
theorem test_cmplti32 :
    ends (run ((start [(1, 0x10000)] []).setC true) 32 0xEB21FFFF) fun t =>
      !t.psr.c && t.pc == 0x1004 := by decide +kernel

/-- 95_test_vectors V43.6. -/
theorem test_cmpnei32 :
    ends (run (start [(1, 0xFFFFFFFF)] []) 32 0xEB41FFFF) fun t =>
      t.psr.c && t.pc == 0x1004 := by decide +kernel

/-- 95_test_vectors V41.10. -/
theorem test_ori32 :
    ends (run (start [(1, 0x12340000)] []) 32 0xEC61ABCD) fun t =>
      t.reg 3 == 0x1234ABCD && t.pc == 0x1004 := by decide +kernel

/-- 95_test_vectors V45.14. -/
theorem test_bsr32 :
    ends (run (start [(15, 0)] []) 32 0xE0000080) fun t =>
      t.reg 15 == 0x1004 && t.pc == 0x1100 := by decide +kernel

/-- 95_test_vectors V47.4. -/
theorem test_ldm32 :
    ends (run (start [(1, 0x2000)] [(0x2000, .word, 0x20000800), (0x2004, .word, 0x101)]) 32 0xD1C11C21) fun t =>
      t.reg t.spSlot == 0x20000800 && t.reg 15 == 0x101 && t.pc == 0x1004 := by decide +kernel

/-- 95_test_vectors V47.10. -/
theorem test_ldm32_b :
    refuses (run (start [(1, 0x2000)] []) 32 0xD1C11C23) := by decide +kernel

/-- 95_test_vectors V47.8. -/
theorem test_stm32 :
    ends (run (start [(1, 0x2000), (2, 0x22)] []) 32 0xD4211C21) fun t =>
      t.mem.load t.cfg.bigEndian 0x2000 .word == 0x2000 && t.mem.load t.cfg.bigEndian 0x2004 .word == 0x22 &&
        t.reg 1 == 0x2000 := by decide +kernel

/-- 95_test_vectors X.6. -/
theorem test_stm32_b :
    ends (run { start [(1, 0x2002), (4, 1), (5, 2)] [(4, .word, 0x4000)] with
        psr := Psr.ofWord true 0x80000300, cfg := { config with hwUnaligned := true } } 32 0xD4811C21) fun t =>
      t.mem.load t.cfg.bigEndian 0x2000 .word == 0 && t.mem.load t.cfg.bigEndian 0x2004 .word == 0 &&
        t.epc == 0x1000 && t.psr.toWord == 0x80010200 && t.pc == 0x4000 := by decide +kernel

/-- 95_test_vectors V48.35. -/
theorem test_sync32 :
    ends (run ((start [] []).setC true) 32 0xC0000420) fun t =>
      t.psr.toWord == 0x80000101 && t.pc == 0x1004 := by decide +kernel

/-- 95_test_vectors V48.36. -/
theorem test_bmset32 :
    ends (run { start [] [] with cfg := { config with hasBctm := true } } 32 0xC0001020) fun t =>
      t.psr.toWord == 0x80000104 && t.pc == 0x1004 := by decide +kernel

/-- 95_test_vectors V48.37. -/
theorem test_bmclr32 :
    ends (run { start [] [] with
        psr := Psr.ofWord true 0x80000104, cfg := { config with hasBctm := true } } 32 0xC0001420) fun t =>
      t.psr.toWord == 0x80000100 && t.pc == 0x1004 := by decide +kernel

/-- 95_test_vectors X.20. -/
theorem test_trap32 :
    ends (run { start [] [(0x48, .word, 0x4502)] with psr := Psr.ofWord true 0x80000341 } 32 0xC0002820) fun t =>
      t.epsr == 0x80000341 && t.epc == 0x1000 && t.psr.toWord == 0x80120201 && t.pc == 0x4502 := by decide +kernel

/-- 95_test_vectors X.23. -/
theorem test_trap32_b :
    ends (run { start [] [(0x20, .word, 0x4800), (0x40, .word, 0x4500)] with
        psr := Psr.ofWord true 0x80000000 } 32 0xC0002020) fun t =>
      t.epsr == 0x80000000 && t.epc == 0x1000 && t.psr.toWord == 0x80080000 && t.pc == 0x4800 := by decide +kernel

/-- 95_test_vectors V48.28. -/
theorem test_rte32 :
    ends (run { start [] [] with epsr := 0x141, epc := 0x1235 } 32 0xC0004020) fun t =>
      t.psr.toWord == 0x141 && t.pc == 0x1234 := by decide +kernel

/-- 95_test_vectors X.14. -/
theorem test_rte32_b :
    ends (run { start [] [(0x14, .word, 0x4300)] with
        psr := Psr.ofWord true 0x101, epsr := 0x80000000, epc := 0x3000 } 32 0xC0004020) fun t =>
      t.epsr == 0x101 && t.epc == 0x1000 && t.psr.toWord == 0x80050001 && t.pc == 0x4300 := by decide +kernel

/-- 95_test_vectors V48.34. -/
theorem test_stop32 :
    ends (run (start [] []) 32 0xC0004820) fun t =>
      t.mode == .lowPower .stop && t.pc == 0x1004 := by decide +kernel

/-- 95_test_vectors V48.32. -/
theorem test_wait32 :
    ends (run (start [] []) 32 0xC0004C20) fun t =>
      t.mode == .lowPower .wait && t.pc == 0x1004 := by decide +kernel

/-- 95_test_vectors V48.33. -/
theorem test_doze32 :
    ends (run (start [] []) 32 0xC0005020) fun t =>
      t.mode == .lowPower .doze && t.pc == 0x1004 := by decide +kernel

/-- 95_test_vectors V48.3. -/
theorem test_mfcr32 :
    ends (run (start [(16, 0x20002000), (14, 0x20001000)] []) 32 0xC02E6022) fun t =>
      t.reg 2 == 0x20002000 && t.pc == 0x1004 := by decide +kernel

/-- 95_test_vectors X.12. -/
theorem test_mfcr32_b :
    ends (run { start [(1, 0x55)] [(0x14, .word, 0x4300)] with psr := Psr.ofWord true 0x140 } 32 0xC0006021) fun t =>
      t.reg 1 == 0x55 && t.epsr == 0x140 && t.epc == 0x1000 && t.psr.toWord == 0x80050000 &&
        t.pc == 0x4300 := by decide +kernel

/-- 95_test_vectors V48.9. -/
theorem test_mtcr32 :
    ends (run (start [(1, 0xFFFFFFFF)] []) 32 0xC0016420) fun t =>
      t.psr.toWord == 0x80FF03C1 && t.pc == 0x1004 := by decide +kernel

/-- 95_test_vectors V48.18. -/
theorem test_mtcr32_b :
    ends (run (start [(1, 0xFFFFFFFD)] []) 32 0xC0016432) fun t =>
      t.mp == 0b01 && t.pc == 0x1004 := by decide +kernel

/-- 95_test_vectors V48.26. -/
theorem test_psrclr32 :
    ends (run { start [] [] with psr := Psr.ofWord true 0x80000141 } 32 0xC1E07020) fun t =>
      t.psr.toWord == 0x80000001 && t.pc == 0x1004 := by decide +kernel

/-- 95_test_vectors V48.22. -/
theorem test_psrset32 :
    ends (run (start [] []) 32 0xC0807420) fun t =>
      t.psr.toWord == 0x80000140 && t.pc == 0x1004 := by decide +kernel

/-- 95_test_vectors V48.27. -/
theorem test_psrset32_b :
    ends (run (start [] [(0x10, .word, 0x4000)]) 32 0xC2007420) fun t =>
      t.epc == 0x1000 && t.psr.toWord == 0x80040000 && t.pc == 0x4000 := by decide +kernel

/-- 95_test_vectors X.17. -/
theorem test_bkpt16 :
    ends (run { start [] [(0x1C, .word, 0x4400)] with
        pc := 0x300, psr := Psr.ofWord true 0x80000140 } 16 0x0000) fun t =>
      t.epsr == 0x80000140 && t.epc == 0x300 && t.psr.toWord == 0x80070000 && t.pc == 0x4400 := by decide +kernel

/-- 95_test_vectors V44.16. -/
theorem test_lrw16 :
    ends (run { start [] [(0x1010, .word, 0xCAFEF00D)] with pc := 0x1002 } 16 0x1064) fun t =>
      t.reg 3 == 0xCAFEF00D && t.pc == 0x1004 := by decide +kernel

/-- 95_test_vectors V44.17. -/
theorem test_lrw16_b :
    ends (run (start [] [(0x1320, .word, 0x11223344)]) 16 0x0177) fun t =>
      t.reg 3 == 0x11223344 && t.pc == 0x1002 := by decide +kernel

/-- 95_test_vectors V45.8. -/
theorem test_br16 :
    ends (run { start [] [] with pc := 0x100 } 16 0x07FF) fun t =>
      t.pc == 0xFE := by decide +kernel

/-- 95_test_vectors V45.1. -/
theorem test_bt16 :
    ends (run { (start [] []).setC true with pc := 0x100 } 16 0x0804) fun t =>
      t.pc == 0x108 := by decide +kernel

/-- 95_test_vectors V45.2. -/
theorem test_bt16_b :
    ends (run { start [] [] with pc := 0x100 } 16 0x0804) fun t =>
      t.pc == 0x102 := by decide +kernel

/-- 95_test_vectors V45.4. -/
theorem test_bf16 :
    ends (run { start [] [] with pc := 0x100 } 16 0x0FFD) fun t =>
      t.pc == 0xFA := by decide +kernel

/-- 95_test_vectors V40.19. -/
theorem test_addi16sp :
    ends (run { start [(16, 0x20002000), (14, 0x20001000)] [] with psr := Psr.ofWord true 0x100 } 16 0x1402) fun t =>
      t.reg 16 == 0x20002008 && t.reg 14 == 0x20001000 && t.pc == 0x1002 := by decide +kernel

/-- 95_test_vectors V40.35. -/
theorem test_subi16sp :
    ends (run (start [(14, 0x20001000)] []) 16 0x1422) fun t =>
      t.reg t.spSlot == 0x20000FF8 && t.pc == 0x1002 := by decide +kernel

/-- 95_test_vectors V48.30. -/
theorem test_nie16 :
    ends (run { start [(14, 0x20001000)] [] with
        psr := Psr.ofWord true 0x80200000, epc := 0x204, epsr := 0x80000140 } 16 0x1460) fun t =>
      t.mem.load t.cfg.bigEndian 0x20000FFC .word == 0x204 &&
        t.mem.load t.cfg.bigEndian 0x20000FF8 .word == 0x80000140 && t.reg t.spSlot == 0x20000FF8 &&
        t.psr.toWord == 0x80200140 := by decide +kernel

/-- 95_test_vectors X.16. -/
theorem test_nie16_b :
    ends (run { start [(16, 0x20002000)] [(0x14, .word, 0x4300)] with psr := Psr.ofWord true 0x100 } 16 0x1460) fun t =>
      t.reg 16 == 0x20002000 && t.epc == 0x1000 && t.psr.toWord == 0x80050000 && t.pc == 0x4300 := by decide +kernel

/-- 95_test_vectors V48.31. -/
theorem test_nir16 :
    ends (run { start [(14, 0x20000FF8)] [(0x20000FFC, .word, 0x204), (0x20000FF8, .word, 0x80000140)] with
        psr := Psr.ofWord true 0x80200000 } 16 0x1461) fun t =>
      t.epsr == 0x80000140 && t.epc == 0x204 && t.reg t.spSlot == 0x20001000 && t.psr.toWord == 0x80000140 &&
        t.pc == 0x204 := by decide +kernel

/-- 95_test_vectors V47.20. -/
theorem test_ipush16 :
    ends (run (start [(14, 0x20001000), (0, 0x10), (1, 0x11), (2, 0x12), (3, 0x13), (12, 0x1C),
        (13, 0x1D)] []) 16 0x1462) fun t =>
      t.mem.load t.cfg.bigEndian 0x20000FE8 .word == 0x10 && t.mem.load t.cfg.bigEndian 0x20000FEC .word == 0x11 &&
        t.mem.load t.cfg.bigEndian 0x20000FF0 .word == 0x12 && t.mem.load t.cfg.bigEndian 0x20000FF4 .word == 0x13 &&
        t.mem.load t.cfg.bigEndian 0x20000FF8 .word == 0x1C && t.mem.load t.cfg.bigEndian 0x20000FFC .word == 0x1D &&
        t.reg t.spSlot == 0x20000FE8 := by decide +kernel

/-- 95_test_vectors V47.21. -/
theorem test_ipop16 :
    ends (run (start [(14, 0x20000FE8)] [(0x20000FE8, .word, 0x10), (0x20000FEC, .word, 0x11),
        (0x20000FF0, .word, 0x12), (0x20000FF4, .word, 0x13), (0x20000FF8, .word, 0x1C),
        (0x20000FFC, .word, 0x1D)]) 16 0x1463) fun t =>
      t.reg 0 == 0x10 && t.reg 1 == 0x11 && t.reg 2 == 0x12 && t.reg 3 == 0x13 && t.reg 12 == 0x1C &&
        t.reg 13 == 0x1D && t.reg t.spSlot == 0x20001000 && t.pc == 0x1002 := by decide +kernel

/-- 95_test_vectors V47.17. -/
theorem test_pop16 :
    ends (run (start [(14, 0x20000FEC)] [(0x20000FEC, .word, 4), (0x20000FF0, .word, 5), (0x20000FF4, .word, 6),
        (0x20000FF8, .word, 7), (0x20000FFC, .word, 0x104)]) 16 0x1494) fun t =>
      t.reg 4 == 4 && t.reg 5 == 5 && t.reg 6 == 6 && t.reg 7 == 7 && t.reg 15 == 0x104 &&
        t.reg t.spSlot == 0x20001000 && t.pc == 0x104 := by decide +kernel

/-- 95_test_vectors V47.19. -/
theorem test_pop16_b :
    ends (run (start [(14, 0x20000FFC), (15, 0x300)] [(0x20000FFC, .word, 0x44)]) 16 0x1481) fun t =>
      t.reg 4 == 0x44 && t.reg t.spSlot == 0x20001000 && t.pc == 0x300 := by decide +kernel

/-- 95_test_vectors V47.11. -/
theorem test_push16 :
    ends (run (start [(14, 0x20001000), (4, 4), (5, 5), (6, 6), (7, 7), (15, 0x104)] []) 16 0x14D4) fun t =>
      t.mem.load t.cfg.bigEndian 0x20000FFC .word == 0x104 && t.mem.load t.cfg.bigEndian 0x20000FF8 .word == 7 &&
        t.mem.load t.cfg.bigEndian 0x20000FF4 .word == 6 && t.mem.load t.cfg.bigEndian 0x20000FF0 .word == 5 &&
        t.mem.load t.cfg.bigEndian 0x20000FEC .word == 4 && t.reg t.spSlot == 0x20000FEC := by decide +kernel

/-- 95_test_vectors X.7. -/
theorem test_push16_b :
    ends (run (start [(14, 0x20000FFE), (4, 1)] [(4, .word, 0x4000)]) 16 0x14C1) fun t =>
      t.reg t.spSlot == 0x20000FFE && t.epc == 0x1000 && t.psr.toWord == 0x80010000 &&
        t.pc == 0x4000 := by decide +kernel

/-- 95_test_vectors V47.26. -/
theorem test_bpop16h :
    ends (run { start [(19, 0x3002), (17, 0x3000), (3, 0xFFFFFFFF)] [(0x3000, .half, 0x1234)] with
        cfg := { config with hasBctm := true } } 16 0x14AC) fun t =>
      t.reg 3 == 0x1234 && t.reg 19 == 0x3000 && t.pc == 0x1002 := by decide +kernel

/-- 95_test_vectors V47.27. -/
theorem test_bpop16w :
    ends (run { start [(19, 0x3004), (17, 0x3000)] [(0x3000, .word, 0xABCD1234)] with
        cfg := { config with hasBctm := true } } 16 0x14AE) fun t =>
      t.reg 3 == 0xABCD1234 && t.reg 19 == 0x3000 && t.pc == 0x1002 := by decide +kernel

/-- 95_test_vectors V47.28. -/
theorem test_bpop16w_b :
    ends (run { start [(19, 0x3002), (17, 0x3000), (20, 0x8000), (3, 0x55), (15, 0)] [] with
        pc := 0x500, cfg := { config with hasBctm := true } } 16 0x14AE) fun t =>
      t.reg 3 == 0x55 && t.reg 19 == 0x3002 && t.reg 15 == 0x502 && t.pc == 0x7FF4 := by decide +kernel

/-- 95_test_vectors V47.22. -/
theorem test_bpush16h :
    ends (run { start [(19, 0x3000), (18, 0x3100), (3, 0xABCD1234)] [] with
        cfg := { config with hasBctm := true } } 16 0x14EC) fun t =>
      t.mem.load t.cfg.bigEndian 0x3000 .half == 0x1234 && t.reg 19 == 0x3002 && t.pc == 0x1002 := by decide +kernel

/-- 95_test_vectors V47.29. -/
theorem test_bpush16h_b :
    ends (run { start [] [(0x10, .word, 0x4000)] with cfg := { config with hasBctm := false } } 16 0x14EC) fun t =>
      t.epc == 0x1000 && t.psr.toWord == 0x80040000 && t.pc == 0x4000 := by decide +kernel

/-- 95_test_vectors V47.24. -/
theorem test_bpush16w :
    ends (run { start [(19, 0x30FC), (18, 0x3100), (3, 0xABCD1234)] [] with
        cfg := { config with hasBctm := true } } 16 0x14EE) fun t =>
      t.mem.load t.cfg.bigEndian 0x30FC .word == 0xABCD1234 && t.reg 19 == 0x3100 && t.pc == 0x1002 := by decide +kernel

/-- 95_test_vectors V47.25. -/
theorem test_bpush16w_b :
    ends (run { start [(19, 0x3100), (18, 0x3100), (20, 0x8000), (3, 0xABCD1234), (15, 0)] [] with
        pc := 0x500, cfg := { config with hasBctm := true } } 16 0x14EE) fun t =>
      t.mem.load t.cfg.bigEndian 0x3100 .word == 0 && t.reg 19 == 0x3100 && t.reg 15 == 0x502 &&
        t.pc == 0x7FF4 := by decide +kernel

/-- 95_test_vectors V40.16. -/
theorem test_addi16rsp :
    ends (run (start [(14, 0x20001000)] []) 16 0x1B04) fun t =>
      t.reg 3 == 0x20001010 && t.reg t.spSlot == 0x20001000 && t.pc == 0x1002 := by decide +kernel

/-- 95_test_vectors V40.13. -/
theorem test_addi16i8 :
    ends (run (start [(3, 0)] []) 16 0x23FF) fun t =>
      t.reg 3 == 0x100 && t.pc == 0x1002 := by decide +kernel

/-- 95_test_vectors V40.32. -/
theorem test_subi16i8 :
    ends (run (start [(3, 0)] []) 16 0x2B00) fun t =>
      t.reg 3 == 0xFFFFFFFF && t.pc == 0x1002 := by decide +kernel

/-- 95_test_vectors V44.8. -/
theorem test_movi16 :
    ends (run (start [(3, 0xFFFFFFFF)] []) 16 0x33AB) fun t =>
      t.reg 3 == 0xAB && t.pc == 0x1002 := by decide +kernel

/-- 95_test_vectors V43.12. -/
theorem test_cmphsi16 :
    ends (run (start [(1, 0x20)] []) 16 0x391F) fun t =>
      t.psr.c && t.pc == 0x1002 := by decide +kernel

/-- 95_test_vectors V43.21. -/
theorem test_cmplti16 :
    ends (run (start [(1, 0x80000000)] []) 16 0x3929) fun t =>
      t.psr.c && t.pc == 0x1002 := by decide +kernel

/-- 95_test_vectors V43.3. -/
theorem test_cmpnei16 :
    ends (run ((start [(1, 0xA)] []).setC true) 16 0x394A) fun t =>
      !t.psr.c && t.pc == 0x1002 := by decide +kernel

/-- 95_test_vectors V44.20. -/
theorem test_bclri16 :
    ends (run (start [(3, 0xFFFFFFFF)] []) 16 0x3B85) fun t =>
      t.reg 3 == 0xFFFFFFDF && t.pc == 0x1002 := by decide +kernel

/-- 95_test_vectors V44.22. -/
theorem test_bseti16 :
    ends (run (start [(3, 0)] []) 16 0x3BA5) fun t =>
      t.reg 3 == 0x20 && t.pc == 0x1002 := by decide +kernel

/-- 95_test_vectors V44.24. -/
theorem test_btsti16 :
    ends (run (start [(3, 0x20)] []) 16 0x3BC5) fun t =>
      t.psr.c && t.pc == 0x1002 := by decide +kernel

/-- 95_test_vectors V45.22. -/
theorem test_jmpix16 :
    ends (run { start [(20, 0x8000), (3, 0xFFFFFF02)] [] with
        cfg := { config with hasBctm := true } } 16 0x3BE1) fun t =>
      t.pc == 0x8030 := by decide +kernel

/-- 95_test_vectors V42.11. -/
theorem test_lsli16 :
    ends (run (start [(1, 0x12345678)] []) 16 0x4164) fun t =>
      t.reg 3 == 0x23456780 && t.pc == 0x1002 := by decide +kernel

/-- 95_test_vectors V42.24. -/
theorem test_lsri16 :
    ends (run (start [(1, 0x12345678)] []) 16 0x4964) fun t =>
      t.reg 3 == 0x1234567 && t.pc == 0x1002 := by decide +kernel

/-- 95_test_vectors V42.39. -/
theorem test_asri16 :
    ends (run (start [(1, 0x87654321)] []) 16 0x5164) fun t =>
      t.reg 3 == 0xF8765432 && t.pc == 0x1002 := by decide +kernel

/-- 95_test_vectors V40.4. -/
theorem test_addu16r3 :
    ends (run (start [(1, 0x10), (2, 0x20)] []) 16 0x5968) fun t =>
      t.reg 3 == 0x30 && t.pc == 0x1002 := by decide +kernel

/-- 95_test_vectors V40.22. -/
theorem test_subu16r3 :
    ends (run (start [(1, 0x30), (2, 0x10)] []) 16 0x5969) fun t =>
      t.reg 3 == 0x20 && t.pc == 0x1002 := by decide +kernel

/-- 95_test_vectors V40.15. -/
theorem test_addi16i3 :
    ends (run (start [(1, 0xFFFFFFF8)] []) 16 0x597E) fun t =>
      t.reg 3 == 0 && t.pc == 0x1002 := by decide +kernel

/-- 95_test_vectors V40.34. -/
theorem test_subi16i3 :
    ends (run (start [(1, 8)] []) 16 0x597F) fun t =>
      t.reg 3 == 0 && t.pc == 0x1002 := by decide +kernel

/-- 95_test_vectors V40.3. -/
theorem test_addu16 :
    ends (run (start [(3, 0x80000001)] []) 16 0x60CC) fun t =>
      t.reg 3 == 2 && t.pc == 0x1002 := by decide +kernel

/-- 95_test_vectors V40.9. -/
theorem test_addc16 :
    ends (run (start [(3, 1), (1, 2)] []) 16 0x60C5) fun t =>
      t.reg 3 == 3 && !t.psr.c && t.pc == 0x1002 := by decide +kernel

/-- 95_test_vectors V40.21. -/
theorem test_subu16 :
    ends (run (start [(3, 5), (1, 7)] []) 16 0x60C6) fun t =>
      t.reg 3 == 0xFFFFFFFE && t.pc == 0x1002 := by decide +kernel

/-- 95_test_vectors V40.29. -/
theorem test_subc16 :
    ends (run ((start [(3, 0x10), (1, 0x10)] []).setC true) 16 0x60C7) fun t =>
      t.reg 3 == 0 && t.psr.c && t.pc == 0x1002 := by decide +kernel

/-- 95_test_vectors V43.8. -/
theorem test_cmphs16 :
    ends (run ((start [(1, 1), (2, 0x80000000)] []).setC true) 16 0x6484) fun t =>
      !t.psr.c && t.pc == 0x1002 := by decide +kernel

/-- 95_test_vectors V43.18. -/
theorem test_cmplt16 :
    ends (run (start [(1, 0x80000000), (2, 0x7FFFFFFF)] []) 16 0x6485) fun t =>
      t.psr.c && t.pc == 0x1002 := by decide +kernel

/-- 95_test_vectors V43.1. -/
theorem test_cmpne16 :
    ends (run ((start [(1, 5), (2, 5)] []).setC true) 16 0x6486) fun t =>
      !t.psr.c && t.pc == 0x1002 := by decide +kernel

/-- 95_test_vectors V44.13. -/
theorem test_mvcv16 :
    ends (run ((start [(3, 0x55)] []).setC true) 16 0x64C3) fun t =>
      t.reg 3 == 0 && t.psr.c && t.pc == 0x1002 := by decide +kernel

/-- 95_test_vectors V41.2. -/
theorem test_and16 :
    ends (run (start [(3, 0xFFFF0000), (1, 0xFFFF00)] []) 16 0x68C4) fun t =>
      t.reg 3 == 0xFF0000 && t.pc == 0x1002 := by decide +kernel

/-- 95_test_vectors V41.6. -/
theorem test_andn16 :
    ends (run (start [(3, 0xFFFF0000), (1, 0xFF00FF00)] []) 16 0x68C5) fun t =>
      t.reg 3 == 0xFF0000 && t.pc == 0x1002 := by decide +kernel

/-- 95_test_vectors V43.24. -/
theorem test_tst16 :
    ends (run ((start [(1, 0xF0), (2, 0xF)] []).setC true) 16 0x6886) fun t =>
      !t.psr.c && t.pc == 0x1002 := by decide +kernel

/-- 95_test_vectors V43.26. -/
theorem test_tstnbz16 :
    ends (run (start [(1, 0x41424344)] []) 16 0x6807) fun t =>
      t.psr.c && t.pc == 0x1002 := by decide +kernel

/-- 95_test_vectors V43.27. -/
theorem test_tstnbz16_b :
    ends (run ((start [(1, 0x41004344)] []).setC true) 16 0x6807) fun t =>
      !t.psr.c && t.pc == 0x1002 := by decide +kernel

/-- 95_test_vectors V41.9. -/
theorem test_or16 :
    ends (run (start [(3, 0xF), (1, 0xF0000000)] []) 16 0x6CC4) fun t =>
      t.reg 3 == 0xF000000F && t.pc == 0x1002 := by decide +kernel

/-- 95_test_vectors V41.13. -/
theorem test_xor16 :
    ends (run (start [(3, 0xDEADBEEF)] []) 16 0x6CCD) fun t =>
      t.reg 3 == 0 && t.pc == 0x1002 := by decide +kernel

/-- 95_test_vectors V41.16. -/
theorem test_nor16 :
    ends (run (start [(3, 0xFFFF0000), (1, 0xFF00)] []) 16 0x6CC6) fun t =>
      t.reg 3 == 0xFF && t.pc == 0x1002 := by decide +kernel

/-- 95_test_vectors V44.2. -/
theorem test_mov16 :
    ends (run (start [(1, 0x20003000)] []) 16 0x6F87) fun t =>
      t.reg t.spSlot == 0x20003000 && t.reg 14 == 0x20003000 && t.pc == 0x1002 := by decide +kernel

/-- 95_test_vectors V42.7. -/
theorem test_lsl16 :
    ends (run (start [(3, 0xFFFF), (1, 0x10)] []) 16 0x70C4) fun t =>
      t.reg 3 == 0xFFFF0000 && t.pc == 0x1002 := by decide +kernel

/-- 95_test_vectors V42.20. -/
theorem test_lsr16 :
    ends (run (start [(3, 0xFFFF0000), (1, 0x10)] []) 16 0x70C5) fun t =>
      t.reg 3 == 0xFFFF && t.pc == 0x1002 := by decide +kernel

/-- 95_test_vectors V42.35. -/
theorem test_asr16 :
    ends (run (start [(3, 0xFFFF0000), (1, 8)] []) 16 0x70C6) fun t =>
      t.reg 3 == 0xFFFFFF00 && t.pc == 0x1002 := by decide +kernel

/-- 95_test_vectors V42.47. -/
theorem test_rotl16 :
    ends (run (start [(3, 0x12345678), (1, 8)] []) 16 0x70C7) fun t =>
      t.reg 3 == 0x34567812 && t.pc == 0x1002 := by decide +kernel

/-- 95_test_vectors V44.34. -/
theorem test_zextb16 :
    ends (run (start [(1, 0x123456F8)] []) 16 0x74C4) fun t =>
      t.reg 3 == 0xF8 && t.pc == 0x1002 := by decide +kernel

/-- 95_test_vectors V44.35. -/
theorem test_zexth16 :
    ends (run (start [(1, 0x1234F678)] []) 16 0x74C5) fun t =>
      t.reg 3 == 0xF678 && t.pc == 0x1002 := by decide +kernel

/-- 95_test_vectors V44.36. -/
theorem test_sextb16 :
    ends (run (start [(1, 0x123456F8)] []) 16 0x74C6) fun t =>
      t.reg 3 == 0xFFFFFFF8 && t.pc == 0x1002 := by decide +kernel

/-- 95_test_vectors V44.38. -/
theorem test_sexth16 :
    ends (run (start [(1, 0x1234F678)] []) 16 0x74C7) fun t =>
      t.reg 3 == 0xFFFFF678 && t.pc == 0x1002 := by decide +kernel

/-- 95_test_vectors V45.18. -/
theorem test_jmp16 :
    ends (run (start [(3, 0x2001)] []) 16 0x780C) fun t =>
      t.pc == 0x2000 := by decide +kernel

/-- 95_test_vectors V45.20. -/
theorem test_jsr16 :
    ends (run (start [(15, 0x2001)] []) 16 0x783D) fun t =>
      t.reg 15 == 0x1002 && t.pc == 0x2000 := by decide +kernel

/-- 95_test_vectors V44.44. -/
theorem test_revb16 :
    ends (run (start [(1, 0x12345678)] []) 16 0x78C6) fun t =>
      t.reg 3 == 0x78563412 && t.pc == 0x1002 := by decide +kernel

/-- 95_test_vectors V44.45. -/
theorem test_revh16 :
    ends (run (start [(1, 0x12345678)] []) 16 0x78C7) fun t =>
      t.reg 3 == 0x34127856 && t.pc == 0x1002 := by decide +kernel

/-- 95_test_vectors V44.55. -/
theorem test_mult16 :
    ends (run (start [(3, 0xFFFFFFFE), (1, 3)] []) 16 0x7CC4) fun t =>
      t.reg 3 == 0xFFFFFFFA && t.pc == 0x1002 := by decide +kernel

/-- 95_test_vectors V46.2. -/
theorem test_ld16b :
    ends (run { start [(2, 0x1000)] [(0x1000, .word, 0xA1B2C380)] with
        pc := 0x2000, cfg := { config with bigEndian := true } } 16 0x8223) fun t =>
      t.reg 1 == 0xA1 && t.pc == 0x2002 := by decide +kernel

/-- 95_test_vectors V46.6. -/
theorem test_ld16h :
    ends (run (start [(2, 0x2000)] [(0x2006, .half, 0x8001)]) 16 0x8A23) fun t =>
      t.reg 1 == 0x8001 && t.pc == 0x1002 := by decide +kernel

/-- 95_test_vectors X.4. -/
theorem test_ld16w :
    ends (run { start [(2, 0x2002)] [(0x2000, .word, 0x44332211), (0x2004, .word, 0x88776655)] with
        psr := Psr.ofWord true 0x80000300, cfg := { config with hwUnaligned := true } } 16 0x9220) fun t =>
      t.reg 1 == 0x66554433 && t.pc == 0x1002 := by decide +kernel

/-- 95_test_vectors X.24. -/
theorem test_ld16w_b :
    ends (run { start [(2, 0x2001)] [(0x20, .word, 0x4800)] with psr := Psr.ofWord true 0x80000000 } 16 0x9220) fun t =>
      t.epsr == 0x80000000 && t.epc == 0x1000 && t.psr.toWord == 0x80080000 && t.pc == 0x4800 := by decide +kernel

/-- 95_test_vectors V46.16. -/
theorem test_st16b :
    ends (run (start [(1, 0x12345678), (2, 0x2000)] [(0x2000, .word, 0xFFFFFFFF)]) 16 0xA223) fun t =>
      t.mem.load t.cfg.bigEndian 0x2000 .word == 0x78FFFFFF && t.pc == 0x1002 := by decide +kernel

/-- 95_test_vectors X.5. -/
theorem test_st16h :
    ends (run { start [(2, 0x2003), (1, 0xABCD)] [] with
        psr := Psr.ofWord true 0x80000300, cfg := { config with hwUnaligned := true } } 16 0xAA20) fun t =>
      t.mem.load t.cfg.bigEndian 0x2000 .word == 0xCD000000 && t.mem.load t.cfg.bigEndian 0x2004 .word == 0xAB &&
        t.pc == 0x1002 := by decide +kernel

/-- 95_test_vectors X.2. -/
theorem test_st16h_b :
    ends (run (start [(2, 0x2001), (1, 0x1234)] [(4, .word, 0x4000)]) 16 0xAA20) fun t =>
      t.mem.load t.cfg.bigEndian 0x2000 .word == 0 && t.epc == 0x1000 && t.psr.toWord == 0x80010000 &&
        t.pc == 0x4000 := by decide +kernel

/-- 95_test_vectors V46.21. -/
theorem test_st16w :
    ends (run (start [(1, 0x12345678), (2, 0x2000)] []) 16 0xB222) fun t =>
      t.mem.load t.cfg.bigEndian 0x2008 .byte == 0x78 && t.mem.load t.cfg.bigEndian 0x2009 .byte == 0x56 &&
        t.mem.load t.cfg.bigEndian 0x200A .byte == 0x34 &&
        t.mem.load t.cfg.bigEndian 0x200B .byte == 0x12 := by decide +kernel

/-- 95_test_vectors M.5. -/
theorem test_st16w_b :
    ends (run { guarded [(2, 0x20000000), (1, 0x22222222)] [(0x20000000, .word, 0x11111111)] with
        psr := Psr.ofWord true 0x100, capr := 0xCB00 } 16 0xB220) fun t =>
      t.mem.load t.cfg.bigEndian 0x20000000 .word == 0x11111111 && t.epsr == 0x100 && t.epc == 0x1000 &&
        t.psr.toWord == 0x80020000 && t.pc == 0x4100 := by decide +kernel

/-- 95_test_vectors V46.11. -/
theorem test_ld16wsp :
    ends (run (start [(14, 0x20001000)] [(0x20001084, .word, 0xA5A5A5A5)]) 16 0x9921) fun t =>
      t.reg 1 == 0xA5A5A5A5 && t.pc == 0x1002 := by decide +kernel

/-- 95_test_vectors V46.23. -/
theorem test_st16wsp :
    ends (run (start [(1, 0xCAFEBABE), (14, 0x20001000)] []) 16 0xB921) fun t =>
      t.mem.load t.cfg.bigEndian 0x20001084 .word == 0xCAFEBABE && t.pc == 0x1002 := by decide +kernel

/-! ### The hypotheses of the statements are met

One theorem for each statement that has hypotheses, at boundary values where it has several clauses. -/

/-- A state with the binary code translation mechanism. -/
def translating (regs : List (Slot × Word)) : State := { start regs [] with cfg := Config.atReset }

/-- A state in user mode. -/
def user (regs : List (Slot × Word)) : State := { start regs [] with psr := Psr.ofWord true 0x00000100 }

/-- A state in which region 0 alone is enabled: the first KB, supervisor only. -/
def oneRegion (regs : List (Slot × Word)) : State :=
  { start regs [] with mp := 1, capr := 0x100, pacr := #v[0x13, 0, 0, 0, 0, 0, 0, 0], pc := 0 }

/-- A state whose bus answers reads at 0x2000 with an error. -/
def noBus (kind : AccessKind) (regs : List (Slot × Word)) : State :=
  { start regs [] with cfg := { config with busErrors := [⟨0x2000, 0x2003, kind⟩] } }

/-- A state in which an interrupt with vector `v` comes after `n` accesses of an instruction. -/
def interruptedAfter (n : Nat) (v : Byte) (regs : List (Slot × Word)) : State :=
  { start regs [] with psr := Psr.ofWord true 0x800001C0, inputs := { Inputs.quiet with midIrq := some (n, v) } }

/-- An outcome that ends has a next state. -/
theorem test_goes {o : Outcome} (h : ends o (fun _ => true) = true) : ∃ t, o = .next t := by
  cases o with
  | next t => exact ⟨t, rfl⟩
  | fault f => cases h
  | refused r => cases h

/-- The same for a next state that is no software reset. -/
theorem test_goesOn {o : Outcome} {n : Nat} (h : ends o (fun t => t.softResets == n) = true) :
    ∃ t, o = .next t ∧ t.softResets = n := by
  cases o with
  | next t => exact ⟨t, rfl, eq_of_beq h⟩
  | fault f => cases h
  | refused r => cases h

/-- `Permits` as a test that evaluates. -/
def permits (s : State) (kind : AccessKind) (supervisor : Bool) (bytes bus : List Word) : Bool :=
  bytes.all (fun a => mpuCheck s kind supervisor a == .permit) && bus.all fun a => !busError s kind a

theorem test_permits {s : State} {kind : AccessKind} {v : Bool} {bytes bus : List Word}
    (h : permits s kind v bytes bus = true) : Permits s kind v bytes bus := by
  simpa [permits, Permits] using h

theorem test_canRead {s : State} {a b : Word} {w : Width} (h : (effectiveAddress s false a w == some b &&
    permits s .read s.psr.s (byteAddresses b w.bytes) (busReadAddresses b w)) = true) : CanRead s a w b := by
  rw [Bool.and_eq_true] at h; exact ⟨eq_of_beq h.1, test_permits h.2⟩

theorem test_canWrite {s : State} {a b : Word} {w : Width} (h : (effectiveAddress s false a w == some b &&
    permits s .write s.psr.s (byteAddresses b w.bytes) (byteAddresses b w.bytes)) = true) : CanWrite s a w b := by
  rw [Bool.and_eq_true] at h; exact ⟨eq_of_beq h.1, test_permits h.2⟩

/-- The words with the numbers `l` from `a` on can be accessed. -/
def wordsOk (s : State) (kind : AccessKind) (a : Word) (l : List Nat) : Bool :=
  l.all fun k => aligned (wordAt a k) .word &&
    permits s kind s.psr.s (byteAddresses (wordAt a k) 4) (byteAddresses (wordAt a k) 4)

theorem test_canReadWord {s : State} {a : Word} {l : List Nat} (h : wordsOk s .read a l = true) :
    ∀ k ∈ l, CanReadWord s (wordAt a k) := by
  intro k hk
  have h := List.all_eq_true.mp h k hk
  rw [Bool.and_eq_true] at h; exact ⟨h.1, test_permits h.2⟩

theorem test_canWriteWord {s : State} {a : Word} {l : List Nat} (h : wordsOk s .write a l = true) :
    ∀ k ∈ l, CanWriteWord s (wordAt a k) := by
  intro k hk
  have h := List.all_eq_true.mp h k hk
  rw [Bool.and_eq_true] at h; exact ⟨h.1, test_permits h.2⟩

theorem test_canFetch {s : State} {n : Nat} (h : (permits s .fetch s.psr.s (byteAddresses s.pc n) (byteAddresses s.pc n)
    && !rewritten s (byteAddresses s.pc n)) = true) : CanFetch s n := by
  rw [Bool.and_eq_true, Bool.not_eq_true'] at h; exact ⟨test_permits h.1, h.2⟩

theorem test_undisturbed {s : State} (h : (s.mode == .normal && s.resetPhase == .running && !s.mpuUnsafe &&
    !s.inputs.reset && !s.debugRequested && s.pendingInterrupt == none) = true) : Undisturbed s := by
  simpa [Undisturbed, and_assoc] using h

/-- The bus answers with an error at `a`, and the MPU permits everything. -/
theorem test_denied {s : State} {kind : AccessKind} {v : Bool} {bytes bus : List Word} (a : Word)
    (h : (bytes.all (fun b => mpuCheck s kind v b == .permit) && bus.contains a && busError s kind a) = true) :
    Denies s kind v bytes bus := by
  simp only [Bool.and_eq_true, List.all_eq_true, beq_iff_eq, List.contains_iff_mem] at h
  exact .inr ⟨h.1.1, a, h.1.2, h.2⟩

theorem test_uninterrupted (s : State) (h : s.psr.ic = false) : Uninterrupted s := by
  intro n; simp [State.interruptAfter, h]

theorem test_witness_DecodeEncode : (Instr.push16 1 8).WellFormed = true ∧ (Instr.lrw16 0 254).WellFormed = true := by
  decide

theorem test_witness_DecodedIsEncoded : decode [0x14D8, 7] = .instr (.push16 1 8) [7] := by decide

/-- A 32-bit and a 16-bit instruction. -/
theorem test_witness_StepRunsDecoded :
    (let s := (start [] []).withFetchWord 32 0xC4410023
     Undisturbed s ∧ decode [halfAt s s.pc, halfAt s (s.pc + 2)] = .instr (.addu32 3 1 2) [] ∧ CanFetch s 4) ∧
    (let s := (start [] []).withFetchWord 16 0x60C4
     Undisturbed s ∧ decode [halfAt s s.pc, halfAt s (s.pc + 2)] = .instr (.addu16 3 1) [0] ∧ CanFetch s 2) :=
  ⟨⟨test_undisturbed (by decide +kernel), by decide +kernel, test_canFetch (by decide +kernel)⟩,
    test_undisturbed (by decide +kernel), by decide +kernel, test_canFetch (by decide +kernel)⟩

/-- The invariant as one test that evaluates: the PC, memory and PSR; the registers of the MPU; debug mode. -/
theorem test_inv {s : State}
    (h : decide ((s.pc.getLsbD 0 = false ∧ s.mem.wf = true ∧ s.vbr &&& 0x3FF#32 = 0 ∧ (s.cfg.hasVbr = false → s.vbr = 0) ∧
        (s.cfg.hasBctm = false → s.psr.bm = false) ∧ s.gcr &&& lowMask s.cfg.gcrWidth.val = s.gcr) ∧
      (s.capr &&& caprMask s.cfg.mpuRegions.val = s.capr ∧ (∀ i : Fin 8, s.pacr[i] &&& pacrMask = s.pacr[i]) ∧
        (∀ i : Fin 8, s.cfg.mpuRegions.val ≤ i.val → s.pacr[i] = 0) ∧
        (s.cfg.mpuRegions.val = 0 → s.mp = 0 ∧ s.rid = 0)) ∧
      (s.cfg.hasDebug = false → s.mode ≠ .debug) ∧ (s.resetPhase = .onDebugExit → s.mode = .debug)) = true) : s.Inv := by
  obtain ⟨⟨pc, mem, vbr, noVbr, bm, gcr⟩, ⟨capr, pacr, absent, noMpu⟩, noDebug, waits⟩ := of_decide_eq_true h
  exact { pcEven := pc, memWf := mem, vbrAligned := vbr, vbrAbsent := noVbr, bmAbsent := bm, gcrWidth := gcr,
          caprRegions := capr, pacrReserved := pacr, pacrRegions := absent, mpuAbsent := noMpu,
          debugAbsent := noDebug, resetWaits := waits }

/-- A state that is not the one after reset, with registers, memory and the MPU in use. -/
theorem test_witness_StepKeepsInv : (guarded [(1, 7)] []).Inv ∧ ∃ t, step (guarded [(1, 7)] []) = .next t :=
  ⟨test_inv (by decide +kernel), test_goes (by decide +kernel)⟩

theorem test_witness_StepKeepsConfig : ∃ t, step ((start [] []).withFetchWord 16 0x60C4) = .next t :=
  test_goes (by decide +kernel)

/-- The register fields name registers at both ends of each range: R0, R15, R23, R30. -/
theorem test_witness_slots :
    (translating []).slotOf 0 = some 0 ∧ (translating []).slotOf 15 = some slotLr ∧
    (translating []).slotOf 14 = some slotSpvSp ∧ (translating []).slotOf 23 = some slotFp ∧
    (translating []).slotOf 30 = some slotSvbr ∧ (user []).slotOf 14 = some slotUserSp := by decide +kernel

theorem test_witness_AddSubResults : let s := translating [(1, 5)]
    s.slotOf 3 = some 3 ∧ s.slotOf 1 = some 1 ∧ s.slotOf 30 = some slotSvbr := by decide +kernel

theorem test_witness_CarryResults : let s := start [(1, 0xFFFFFFFF), (2, 1)] []
    s.slotOf 3 = some 3 ∧ s.slotOf 1 = some 1 ∧ s.slotOf 2 = some 2 := by decide +kernel

theorem test_witness_ConditionalResults : let s := start [(1, 5)] []
    s.slotOf 3 = some 3 ∧ s.slotOf 1 = some 1 := by decide +kernel

theorem test_witness_LogicResults : let s := start [(1, 5)] []
    s.slotOf 0 = some 0 ∧ s.slotOf 1 = some 1 ∧ s.slotOf 15 = some slotLr := by decide +kernel

theorem test_witness_ShiftRegisterResults : let s := start [(1, 5), (2, 32)] []
    s.slotOf 3 = some 3 ∧ s.slotOf 1 = some 1 ∧ s.slotOf 2 = some 2 := by decide +kernel

theorem test_witness_ShiftImmediateResults : let s := start [(1, 5)] []
    s.slotOf 14 = some slotSpvSp ∧ s.slotOf 1 = some 1 := by decide +kernel

theorem test_witness_CarryShiftResults : let s := start [(1, 5)] []
    s.slotOf 3 = some 3 ∧ s.slotOf 1 = some 1 := by decide +kernel

theorem test_witness_CompareResults : (start [(1, 5)] []).slotOf 1 = some 1 := by decide +kernel

/-- The mask fields from 16 to 31. -/
theorem test_witness_MoveBitResults : let s := start [(1, 5)] []
    s.slotOf 3 = some 3 ∧ s.slotOf 1 = some 1 ∧ 16 ≤ (16 : BitVec 5).toNat ∧ 16 ≤ (31 : BitVec 5).toNat := by
  decide +kernel

theorem test_witness_ExtractResults : let s := start [(1, 5)] []
    s.slotOf 3 = some 3 ∧ s.slotOf 1 = some 1 := by decide +kernel

theorem test_witness_FindFirstResults : let s := start [(1, 5)] []
    s.slotOf 3 = some 3 ∧ s.slotOf 1 = some 1 := by decide +kernel

theorem test_witness_BranchResults : (translating []).cfg.hasBctm = true := by decide +kernel

/-- A byte, the halfword and the word at the top of the address space. -/
theorem test_witness_LoadResults : let s := start [(1, 0xFFFFFFFC)] []
    s.slotOf 3 = some 3 ∧ s.slotOf 1 = some 1 ∧
    CanRead s (s.reg 1 + BitVec.ofNat 32 (3 : BitVec 12).toNat) .byte 0xFFFFFFFF ∧
    CanRead s (s.reg 1 + BitVec.ofNat 32 (2 * (1 : BitVec 12).toNat)) .half 0xFFFFFFFE ∧
    CanRead s (s.reg 1 + BitVec.ofNat 32 (4 * (0 : BitVec 12).toNat)) .word 0xFFFFFFFC :=
  ⟨by decide +kernel, by decide +kernel, test_canRead (by decide +kernel), test_canRead (by decide +kernel),
    test_canRead (by decide +kernel)⟩

theorem test_witness_ShortLoadResults : let s := start [(1, 0x2000), (14, 0x3000)] []
    CanRead s (s.reg3 1 + BitVec.ofNat 32 (31 : BitVec 5).toNat) .byte 0x201F ∧
    CanRead s (s.reg3 1 + BitVec.ofNat 32 (2 * (31 : BitVec 5).toNat)) .half 0x203E ∧
    CanRead s (s.reg3 1 + BitVec.ofNat 32 (4 * (31 : BitVec 5).toNat)) .word 0x207C ∧
    CanRead s (s.reg s.spSlot + BitVec.ofNat 32 (4 * (255 : BitVec 8).toNat)) .word 0x33FC ∧
    CanRead s ((s.pc + BitVec.ofNat 32 (4 * (255 : BitVec 8).toNat)) &&& 0xFFFFFFFC#32) .word 0x13FC ∧
    s.slotOf 15 = some slotLr ∧
    CanRead s ((s.pc + BitVec.ofNat 32 (4 * (0xFFFF : BitVec 16).toNat)) &&& 0xFFFFFFFC#32) .word 0x40FFC :=
  ⟨test_canRead (by decide +kernel), test_canRead (by decide +kernel), test_canRead (by decide +kernel),
    test_canRead (by decide +kernel), test_canRead (by decide +kernel), by decide +kernel,
    test_canRead (by decide +kernel)⟩

/-- The last clause is met at a misaligned address too, with PSR.MM set. -/
theorem test_witness_StoreResults :
    (let s := start [(1, 0x2000), (14, 0x3000)] []
     s.slotOf 3 = some 3 ∧ s.slotOf 1 = some 1 ∧
     CanWrite s (s.reg 1 + BitVec.ofNat 32 (4095 : BitVec 12).toNat) .byte 0x2FFF ∧
     CanWrite s (s.reg 1 + BitVec.ofNat 32 (2 * (4095 : BitVec 12).toNat)) .half 0x3FFE ∧
     CanWrite s (s.reg 1 + BitVec.ofNat 32 (4 * (4095 : BitVec 12).toNat)) .word 0x5FFC ∧
     CanWrite s (s.reg3 1 + BitVec.ofNat 32 (0 : BitVec 5).toNat) .byte 0x2000 ∧
     CanWrite s (s.reg3 1 + BitVec.ofNat 32 (2 * (0 : BitVec 5).toNat)) .half 0x2000 ∧
     CanWrite s (s.reg3 1 + BitVec.ofNat 32 (4 * (0 : BitVec 5).toNat)) .word 0x2000) ∧
    (let s := { start [(14, 0x3002)] [] with psr := Psr.ofWord true 0x80000300 }
     CanWrite s (s.reg s.spSlot + BitVec.ofNat 32 (4 * (0 : BitVec 8).toNat)) .word 0x3000) :=
  ⟨⟨by decide +kernel, by decide +kernel, test_canWrite (by decide +kernel), test_canWrite (by decide +kernel),
      test_canWrite (by decide +kernel), test_canWrite (by decide +kernel), test_canWrite (by decide +kernel),
      test_canWrite (by decide +kernel)⟩, test_canWrite (by decide +kernel)⟩

/-- A list that ends at R15 and holds the base. -/
theorem test_witness_LoadMultipleResult : let s := start [(1, 0x2000)] []
    s.slotOf 1 = some 1 ∧ (0 : BitVec 5).toNat + (15 : BitVec 5).toNat ≤ 15 ∧
    (∀ k ≤ (15 : BitVec 5).toNat, CanReadWord s (wordAt (s.reg 1) k)) ∧ Uninterrupted s :=
  ⟨by decide +kernel, by decide,
    fun k h => test_canReadWord (l := List.range 16) (by decide +kernel) k (List.mem_range.mpr (Nat.lt_succ_of_le h)),
    test_uninterrupted _ (by decide +kernel)⟩

theorem test_witness_StoreMultipleResult : let s := start [(1, 0x2000)] []
    s.slotOf 1 = some 1 ∧ (15 : BitVec 5).toNat + (0 : BitVec 5).toNat ≤ 15 ∧
    (∀ k ≤ (0 : BitVec 5).toNat, CanWriteWord s (wordAt (s.reg 1) k)) ∧ Uninterrupted s ∧ s.mem.wf = true :=
  ⟨by decide +kernel, by decide,
    fun k h => test_canWriteWord (l := List.range 1) (by decide +kernel) k (List.mem_range.mpr (Nat.lt_succ_of_le h)),
    test_uninterrupted _ (by decide +kernel), by decide +kernel⟩

/-- The longest list, the empty list, and IPUSH. -/
theorem test_witness_PushResults : let s := start [(14, 0x3000)] []
    (let l : List Slot := (List.finRange 21).filter fun r =>
      4 ≤ r.val ∧ r.val < 4 + (8 : BitVec 4).toNat ∨ (1 : BitVec 1) = 1 ∧ r = slotLr
     (8 : BitVec 4).toNat ≤ 8 ∧ l.length = 9 ∧
     ∀ k ∈ List.range 9, CanWriteWord s (wordAt (s.reg s.spSlot - BitVec.ofNat 32 (4 * 9)) k)) ∧
    ((List.finRange 21).filter fun r => 4 ≤ r.val ∧ r.val < 4 + (0 : BitVec 4).toNat ∨ (0 : BitVec 1) = 1 ∧ r = slotLr)
      = [] ∧
    (∀ k ∈ List.range 6, CanWriteWord s (wordAt (s.reg s.spSlot - BitVec.ofNat 32 (4 * 6)) k)) ∧
    Uninterrupted s ∧ s.mem.wf = true :=
  ⟨⟨by decide, by decide, test_canWriteWord (by decide +kernel)⟩, by decide, test_canWriteWord (by decide +kernel),
    test_uninterrupted _ (by decide +kernel), by decide +kernel⟩

/-- R15 alone, and IPOP. -/
theorem test_witness_PopResults : let s := start [(14, 0x3000)] []
    (let l : List Slot := (List.finRange 21).filter fun r =>
      4 ≤ r.val ∧ r.val < 4 + (0 : BitVec 4).toNat ∨ (1 : BitVec 1) = 1 ∧ r = slotLr
     (0 : BitVec 4).toNat ≤ 8 ∧ l = [slotLr] ∧ ∀ k ∈ List.range 1, CanReadWord s (wordAt (s.reg s.spSlot) k)) ∧
    (∀ k ∈ List.range 6, CanReadWord s (wordAt (s.reg s.spSlot) k)) ∧ Uninterrupted s :=
  ⟨⟨by decide, by decide, test_canReadWord (by decide +kernel)⟩, test_canReadWord (by decide +kernel),
    test_uninterrupted _ (by decide +kernel)⟩

/-- Each of the four instructions just within its limit; the first and the third just beyond it. -/
theorem test_witness_TranslationStackResults :
    (let s := translating [(17, 0x3000), (18, 0x3004), (19, 0x3000)]
     s.cfg.hasBctm = true ∧ ¬ (s.reg slotTop).toNat < (s.reg slotBsp).toNat + 4 ∧
     CanWrite s (s.reg slotBsp) .word 0x3000 ∧
     ¬ (s.reg slotTop).toNat < (s.reg slotBsp).toNat + 2 ∧ CanWrite s (s.reg slotBsp) .half 0x3000 ∧
     (s.reg slotBsp).toNat < (s.reg slotFp).toNat + 2) ∧
    (let s := translating [(17, 0x3000), (18, 0x3004), (19, 0x3004)]
     ¬ (s.reg slotBsp).toNat < (s.reg slotFp).toNat + 4 ∧ CanRead s (s.reg slotBsp - 4) .word 0x3000 ∧
     ¬ (s.reg slotBsp).toNat < (s.reg slotFp).toNat + 2 ∧ CanRead s (s.reg slotBsp - 2) .half 0x3002 ∧
     (s.reg slotTop).toNat < (s.reg slotBsp).toNat + 2) :=
  ⟨⟨by decide +kernel, by decide +kernel, test_canWrite (by decide +kernel), by decide +kernel,
      test_canWrite (by decide +kernel), by decide +kernel⟩,
    by decide +kernel, test_canRead (by decide +kernel), by decide +kernel, test_canRead (by decide +kernel),
    by decide +kernel⟩

theorem test_witness_MisalignedTraps :
    (let s := start [(1, 0x2001)] []
     singleAccess s (.ld16h 3 1 0) = some (.read, 0x2001, .half) ∧
     (∀ f ∈ registerFields (.ld16h 3 1 0), (s.slotOf f).isSome) ∧ (0x2001 : Word).toNat % Width.half.bytes ≠ 0 ∧
     s.psr.mm = false) ∧
    (let s := start [(1, 0x2001)] []
     multiBase s (.ldm32 0 1 15) = some 0x2001 ∧ (0x2001 : Word).toNat % 4 ≠ 0) ∧
    (let s := start [(14, 0x2002)] []
     multiBase s (.push16 0 1) = some 0x2002 ∧ (0x2002 : Word).toNat % 4 ≠ 0 ∧ VectorReadable s 1) :=
  ⟨by decide +kernel, by decide +kernel, by decide +kernel, by decide +kernel, test_permits (by decide +kernel)⟩

/-- Each branch of the rule. -/
theorem test_witness_AlignmentRule :
    (0x2000 : Word).toNat % Width.word.bytes = 0 ∧ (0x2003 : Word).toNat % Width.word.bytes ≠ 0 ∧
    (start [] []).psr.mm = false ∧
    ({ start [] [] with psr := Psr.ofWord true 0x80000300 } : State).psr.mm = true := by decide +kernel

/-- Denied by the MPU outside the only region, and answered with an error by the bus. -/
theorem test_witness_AccessErrorTraps :
    (let s := oneRegion [(1, 0x400)]
     singleAccess s (.ld16b 3 1 0) = some (.read, 0x400, .byte) ∧ effectiveAddress s false 0x400 .byte = some 0x400 ∧
     Denies s .read s.psr.s (byteAddresses 0x400 1) (busReadAddresses 0x400 .byte) ∧ VectorReadable s 2) ∧
    (let s := noBus .write [(1, 0x2000)]
     singleAccess s (.st32w 3 1 0) = some (.write, 0x2000, .word) ∧
     (∀ f ∈ registerFields (.st32w 3 1 0), (s.slotOf f).isSome) ∧
     effectiveAddress s false 0x2000 .word = some 0x2000 ∧
     Denies s .write s.psr.s (byteAddresses 0x2000 4) (byteAddresses 0x2000 4) ∧ VectorReadable s 2) :=
  ⟨⟨by decide +kernel, by decide +kernel, .inl ⟨[], 0x400, [], rfl, by simp, by decide +kernel⟩,
      test_permits (by decide +kernel)⟩,
    by decide +kernel, by decide +kernel, by decide +kernel, test_denied 0x2000 (by decide +kernel),
    test_permits (by decide +kernel)⟩

/-- LDM stopped by the bus on its second word; POP on its first; IPOP interrupted before its first and before its last word;
an LDM with a vector below 32; NIR stopped on its first and on its second word. -/
theorem test_witness_LoadsStopped :
    (let s := noBus .read [(1, 0x1FFC)]
     (s.slotOf 1 = some 1 ∧ aligned (s.reg 1) .word = true) ∧
     (∀ k ∈ List.range 1, CanReadWord s (wordAt (s.reg 1) k)) ∧
     Uninterrupted s ∧ Denies s .read s.psr.s (byteAddresses (wordAt (s.reg 1) 1) 4)
       (byteAddresses (wordAt (s.reg 1) 1) 4)) ∧
    (let s := noBus .read [(14, 0x2000)]
     (pushPopList 1 0 = [slotLr] ∧ aligned (s.reg s.spSlot) .word = true) ∧ Uninterrupted s ∧
     Denies s .read s.psr.s (byteAddresses (wordAt (s.reg s.spSlot) 0) 4) (byteAddresses (wordAt (s.reg s.spSlot) 0) 4)) ∧
    (let s := interruptedAfter 0 32 [(14, 0x3000)]
     (aligned (s.reg s.spSlot) .word = true ∧ s.psr.ic = true ∧ s.psr.ie = true ∧ s.psr.ee = true ∧
       s.inputs.midIrq = some (0, 32) ∧ 32 ≤ (32 : Byte).toNat) ∧ VectorReadable s 32) ∧
    (let s := interruptedAfter 5 32 [(14, 0x3000)]
     s.inputs.midIrq = some (5, 32) ∧ ∀ k ∈ List.range 5, CanReadWord s (wordAt (s.reg s.spSlot) k)) ∧
    (let s := interruptedAfter 0 31 [(1, 0x3000)]
     s.slotOf 1 = some 1 ∧ s.inputs.midIrq = some (0, 31) ∧ (31 : Byte).toNat < 32) ∧
    (let s := noBus .read [(14, 0x2000)]
     (s.psr.s = true ∧ aligned (s.reg slotSpvSp) .word = true) ∧
     Denies s .read true (byteAddresses (s.reg slotSpvSp) 4) (byteAddresses (s.reg slotSpvSp) 4)) ∧
    (let s := noBus .read [(14, 0x1FFC)]
     (∀ k ∈ [0], CanReadWord s (wordAt (s.reg slotSpvSp) k)) ∧
     Denies s .read true (byteAddresses (s.reg slotSpvSp + 4) 4) (byteAddresses (s.reg slotSpvSp + 4) 4)) :=
  ⟨⟨by decide +kernel, test_canReadWord (by decide +kernel), test_uninterrupted _ (by decide +kernel),
      test_denied 0x2000 (by decide +kernel)⟩,
    ⟨by decide +kernel, test_uninterrupted _ (by decide +kernel), test_denied 0x2000 (by decide +kernel)⟩,
    ⟨by decide +kernel, test_permits (by decide +kernel)⟩, ⟨by decide +kernel, test_canReadWord (by decide +kernel)⟩,
    by decide +kernel, ⟨by decide +kernel, test_denied 0x2000 (by decide +kernel)⟩,
    test_canReadWord (by decide +kernel), test_denied 0x2000 (by decide +kernel)⟩

/-- STM stopped by the bus on its second word; PUSH on its first store, that of the last register, and on its last, that of the
first; IPUSH interrupted before its first and before its last store, and with a vector below 32; NIE stopped on its first and
on its second store. -/
theorem test_witness_StoresStopped :
    (let s := noBus .write [(1, 0x1FFC)]
     (s.slotOf 1 = some 1 ∧ aligned (s.reg 1) .word = true ∧ s.mem.wf = true) ∧
     (∀ k ∈ List.range 1, CanWriteWord s (wordAt (s.reg 1) k)) ∧ Uninterrupted s ∧
     Denies s .write s.psr.s (byteAddresses (wordAt (s.reg 1) 1) 4) (byteAddresses (wordAt (s.reg 1) 1) 4)) ∧
    (let s := noBus .write [(14, 0x2004)]
     (0 < (pushPopList 1 2).length ∧ aligned (s.reg s.spSlot) .word = true ∧ s.mem.wf = true) ∧ Uninterrupted s ∧
     Denies s .write s.psr.s (byteAddresses (wordAt (s.reg s.spSlot - 12) 2) 4)
       (byteAddresses (wordAt (s.reg s.spSlot - 12) 2) 4)) ∧
    (let s := noBus .write [(14, 0x200C)]
     (2 < (pushPopList 1 2).length ∧ aligned (s.reg s.spSlot) .word = true) ∧
     (∀ k ∈ [1, 2], CanWriteWord s (wordAt (s.reg s.spSlot - 12) k)) ∧
     Denies s .write s.psr.s (byteAddresses (wordAt (s.reg s.spSlot - 12) 0) 4)
       (byteAddresses (wordAt (s.reg s.spSlot - 12) 0) 4)) ∧
    (let s := interruptedAfter 0 32 [(14, 0x3000)]
     (s.psr.ic = true ∧ s.psr.ie = true ∧ s.psr.ee = true ∧ s.inputs.midIrq = some (0, 32) ∧ s.mem.wf = true) ∧
     VectorReadable s 32) ∧
    (let s := interruptedAfter 5 31 [(14, 0x3000)]
     (s.inputs.midIrq = some (5, 31) ∧ (31 : Byte).toNat < 32) ∧
     ∀ k ∈ [1, 2, 3, 4, 5], CanWriteWord s (wordAt (s.reg s.spSlot - 24) k)) ∧
    (let s := noBus .write [(14, 0x2004)]
     (s.psr.s = true ∧ s.mem.wf = true ∧ aligned (s.reg slotSpvSp) .word = true) ∧
     Denies s .write true (byteAddresses (s.reg slotSpvSp - 4) 4) (byteAddresses (s.reg slotSpvSp - 4) 4)) ∧
    (let s := noBus .write [(14, 0x2008)]
     (∀ k ∈ [1], CanWriteWord s (wordAt (s.reg slotSpvSp - 8) k)) ∧
     Denies s .write true (byteAddresses (s.reg slotSpvSp - 8) 4) (byteAddresses (s.reg slotSpvSp - 8) 4)) :=
  ⟨⟨by decide +kernel, test_canWriteWord (by decide +kernel), test_uninterrupted _ (by decide +kernel),
      test_denied 0x2000 (by decide +kernel)⟩,
    ⟨by decide +kernel, test_uninterrupted _ (by decide +kernel), test_denied 0x2000 (by decide +kernel)⟩,
    ⟨by decide +kernel, test_canWriteWord (by decide +kernel), test_denied 0x2000 (by decide +kernel)⟩,
    ⟨by decide +kernel, test_permits (by decide +kernel)⟩, ⟨by decide +kernel, test_canWriteWord (by decide +kernel)⟩,
    ⟨by decide +kernel, test_denied 0x2000 (by decide +kernel)⟩,
    test_canWriteWord (by decide +kernel), test_denied 0x2000 (by decide +kernel)⟩

theorem test_witness_NestingResults : let s := start [(14, 0x3000)] []
    s.psr.s = true ∧ (∀ k ∈ [0, 1], CanWriteWord s (wordAt (s.reg slotSpvSp - 8) k)) ∧
    ∀ k ∈ [0, 1], CanReadWord s (wordAt (s.reg slotSpvSp) k) :=
  ⟨by decide +kernel, test_canWriteWord (by decide +kernel), test_canReadWord (by decide +kernel)⟩

theorem test_witness_ReadControlRegister : let s := translating []
    s.psr.s = true ∧ s.slotOf 3 = some 3 ∧ s.cfg.hasVbr = true := by decide +kernel

/-- With regions, and without any. -/
theorem test_witness_WriteControlRegister :
    (let s := translating []
     s.psr.s = true ∧ s.slotOf 3 = some 3 ∧ s.cfg.hasVbr = true ∧ ¬ s.cfg.mpuRegions = 0) ∧
    (let s := { start [] [] with cfg := { config with mpuRegions := 0 } }
     s.psr.s = true ∧ s.slotOf 3 = some 3 ∧ s.cfg.mpuRegions = 0 ∧ s.mp = 0) := by decide +kernel

theorem test_witness_ResetRegisterRule : let s := start [(3, 1)] []
    s.psr.s = true ∧ s.slotOf 3 = some 3 ∧ s.reg 3 ≠ s.cfg.srcrMagic := by decide +kernel

theorem test_witness_StatusBitResults : (start [] []).psr.s = true ∧ (translating []).cfg.hasBctm = true := by
  decide +kernel

theorem test_witness_ReturnResult : (start [] []).psr.s = true := by decide +kernel

theorem test_witness_LowPowerResults : (start [] []).psr.s = true := by decide +kernel

theorem test_witness_ExceptionEntry :
    VectorReadable (start [] []) 255 ∧
    (let s := { noBus .fetch [] with vbr := 0x2000 }
     Denies s .fetch true (byteAddresses (s.vectorAddress 0) 4) (byteAddresses (s.vectorAddress 0) 4)) :=
  ⟨test_permits (by decide +kernel), test_denied 0x2000 (by decide +kernel)⟩

/-- BKPT with and without a debug unit that has set FDB; the vectors can be read, with EE and without. -/
theorem test_witness_TrapResults :
    (let s := start [] []
     s.psr.ee = true ∧ VectorReadable s 19 ∧ (s.cfg.hasDebug = false ∨ s.inputs.fdb = false)) ∧
    (let s := { start [] [] with psr := Psr.reset, inputs := { Inputs.quiet with fdb := true } }
     s.psr.ee = false ∧ VectorReadable s 8 ∧ s.cfg.hasDebug = true ∧ s.inputs.fdb = true) :=
  ⟨⟨by decide +kernel, test_permits (by decide +kernel), by decide +kernel⟩,
    by decide +kernel, test_permits (by decide +kernel), by decide +kernel⟩

theorem test_witness_PrivilegeViolation :
    isPrivileged .rte32 = true ∧ isPrivileged .nir16 = true ∧ (user []).psr.s = false ∧ VectorReadable (user []) 5 :=
  ⟨by decide, by decide, by decide +kernel, test_permits (by decide +kernel)⟩

theorem test_witness_WithoutTranslation :
    needsBctm (.jmpix16 0 0) = true ∧ (start [] []).cfg.hasBctm = false ∧ VectorReadable (start [] []) 4 :=
  ⟨by decide, by decide +kernel, test_permits (by decide +kernel)⟩

/-- The boundary of each clause: R16 and R31, a list one too long, mask field 15, CR<3,0>, and the unsafe MPU. -/
theorem test_witness_Refusals :
    (let s := translating []
     (16 : BitVec 5) ∈ registerFields (.addu32 16 1 2) ∧ s.slotOf 16 = none ∧
     (31 : BitVec 5) ∈ registerFields (.mfcr32 31 0 0) ∧ s.slotOf 31 = none ∧ s.psr.s = true ∧
     15 < (14 : BitVec 5).toNat + (2 : BitVec 5).toNat ∧ (15 : BitVec 5).toNat < 16 ∧
     s.slotOf 0 = some 0 ∧ crOf s.cfg.hasVbr 3 0 = none ∧ crOf s.cfg.hasVbr 14 0 = none) ∧
    (let s := { start [] [] with mpuUnsafe := true }
     s.mode = .normal ∧ s.resetPhase = .running ∧ s.inputs.reset = false ∧ s.mpuUnsafe = true) := by decide +kernel

/-- CCR.MP = 10 and 11; the largest reserved size; a base that is not aligned to its size. A store, an LDM, a PUSH and a fetch
are checked in such a state. -/
theorem test_witness_Refusals_mpu :
    (let s := { start [(1, 0x2000), (14, 0x3000)] [] with mp := 2 }
     MpuUndefined s .mpuModeUndefined ∧
     (singleAccess s (.st32w 3 1 0) = some (.write, 0x2000, .word) ∧
       (∀ f ∈ registerFields (.st32w 3 1 0), (s.slotOf f).isSome) ∧
       effectiveAddress s false 0x2000 .word = some 0x2000) ∧
     (multiBase s (.ldm32 0 1 15) = some 0x2000 ∧ multiBase s (.push16 1 8) = some 0x3000 ∧
       (0x3000 : Word).toNat % 4 = 0) ∧
     Uninterrupted s ∧ Undisturbed s) ∧
    MpuUndefined { start [] [] with mp := 3 } .mpuModeUndefined ∧
    MpuUndefined { start [] [] with mp := 1, pacr := #v[0x11, 0, 0, 0, 0, 0, 0, 0] } .mpuRegionMalformed ∧
    MpuUndefined { start [] [] with mp := 1, pacr := #v[0, 0, 0, 0, 0, 0, 0, 0x20000419] } .mpuRegionMalformed :=
  ⟨⟨.inl (by decide +kernel), by decide +kernel, by decide +kernel, test_uninterrupted _ (by decide +kernel),
      test_undisturbed (by decide +kernel)⟩,
    .inl (by decide +kernel), .inr ⟨rfl, rfl, 0, by decide +kernel⟩, .inr ⟨rfl, rfl, 7, by decide +kernel⟩⟩

/-- The highest reserved interrupt vector; the first and the second halfword of an instruction stored to on a core with a
cache. -/
theorem test_witness_Refusals_boundary :
    (let s := { start [] [] with psr := Psr.ofWord true 0x80000140, inputs := { Inputs.quiet with intReq := some 31 } }
     s.mode = .normal ∧ s.resetPhase = .running ∧ s.mpuUnsafe = false ∧ s.inputs.reset = false ∧
     s.debugRequested = false ∧ s.psr.ie = true ∧ s.psr.ee = true ∧ s.inputs.intReq = some 31 ∧
     (31 : Byte).toNat < 32) ∧
    (let s := { start [] [] with cfg := { config with cacheSize := .kb2 }, written := [0x1001] }
     Undisturbed s ∧ Permits s .fetch s.psr.s ((byteAddresses s.pc 4).take 2) ((byteAddresses s.pc 4).take 2) ∧
     rewritten s ((byteAddresses s.pc 4).take 2) = true) ∧
    (let s := ({ start [] [] with cfg := { config with cacheSize := .kb8 }, written := [0x1002] } : State).withFetchWord 32
       0xC4410023
     Undisturbed s ∧ CanFetch s 2 ∧ isLong (halfAt s s.pc) = true ∧
     Permits s .fetch s.psr.s ((byteAddresses s.pc 4).drop 2) ((byteAddresses s.pc 4).drop 2) ∧
     rewritten s ((byteAddresses s.pc 4).drop 2) = true) :=
  ⟨by decide +kernel,
    ⟨test_undisturbed (by decide +kernel), test_permits (by decide +kernel), by decide +kernel⟩,
    test_undisturbed (by decide +kernel), test_canFetch (by decide +kernel), by decide +kernel,
    test_permits (by decide +kernel), by decide +kernel⟩

/-- An illegal halfword, an illegal 32-bit encoding, the first halfword denied, the second halfword denied. -/
theorem test_witness_FetchTraps :
    (let s := (start [] []).withFetchWord 16 0x1464
     Undisturbed s ∧ VectorReadable s 4 ∧ s.psr.ee = true ∧ CanFetch s 2 ∧ decode [halfAt s s.pc] = .illegal16 0x1464) ∧
    (let s := (start [] []).withFetchWord 32 0xC4000000
     Undisturbed s ∧ VectorReadable s 4 ∧ CanFetch s 4 ∧
     decode [halfAt s s.pc, halfAt s (s.pc + 2)] = .illegal32 0xC4000000) ∧
    (let s := { noBus .fetch [] with pc := 0x2000 }
     Undisturbed s ∧ VectorReadable s 2 ∧ s.psr.ee = true ∧
     Denies s .fetch s.psr.s ((byteAddresses s.pc 4).take 2) ((byteAddresses s.pc 4).take 2)) ∧
    (let s := ({ noBus .fetch [] with pc := 0x1FFE } : State).withFetchWord 32 0xC4410023
     Undisturbed s ∧ VectorReadable s 2 ∧ CanFetch s 2 ∧ isLong (halfAt s s.pc) = true ∧
     Denies s .fetch s.psr.s ((byteAddresses s.pc 4).drop 2) ((byteAddresses s.pc 4).drop 2)) :=
  ⟨⟨test_undisturbed (by decide +kernel), test_permits (by decide +kernel), by decide +kernel,
      test_canFetch (by decide +kernel), by decide +kernel⟩,
    ⟨test_undisturbed (by decide +kernel), test_permits (by decide +kernel), test_canFetch (by decide +kernel),
      by decide +kernel⟩,
    ⟨test_undisturbed (by decide +kernel), test_permits (by decide +kernel), by decide +kernel,
      test_denied 0x2000 (by decide +kernel)⟩,
    test_undisturbed (by decide +kernel), test_permits (by decide +kernel), test_canFetch (by decide +kernel),
    by decide +kernel, test_denied 0x2000 (by decide +kernel)⟩

/-- The lowest vector of an interrupt, taken; and each of IE and EE missing. -/
theorem test_witness_InterruptResults :
    (let s := { start [] [] with psr := Psr.ofWord true 0x80000140, inputs := { Inputs.quiet with intReq := some 32 } }
     s.mode = .normal ∧ s.resetPhase = .running ∧ s.mpuUnsafe = false ∧ s.inputs.reset = false ∧
     s.debugRequested = false ∧ s.psr.ie = true ∧ s.psr.ee = true ∧ s.inputs.intReq = some 32 ∧
     32 ≤ (32 : Byte).toNat) ∧
    VectorReadable (start [] []) 32 ∧ (start [] []).psr.ie = false ∧
    ({ start [] [] with psr := Psr.ofWord true 0x80000040 } : State).psr.ee = false :=
  ⟨by decide +kernel, test_permits (by decide +kernel), by decide +kernel⟩

/-- A state for each clause. -/
theorem test_witness_ModeSteps :
    (let s := { start [] [] with mode := .lowPower .stop }
     s.inputs.reset = false ∧ s.resetPhase = .running ∧ s.mode = .lowPower .stop ∧ s.debugRequested = false ∧
     s.inputs.intRaw = false) ∧
    (let s := { start [] [] with mode := .lowPower .wait, inputs := { Inputs.quiet with debugReq := true } }
     s.mode = .lowPower .wait ∧ s.debugRequested = true) ∧
    (let s := { start [] [] with mode := .lowPower .doze, inputs := { Inputs.quiet with intRaw := true } }
     s.mode = .lowPower .doze ∧ s.debugRequested = false ∧ s.inputs.intRaw = true) ∧
    (let s := { start [] [] with inputs := { Inputs.quiet with debugReq := true } }
     s.inputs.reset = false ∧ s.resetPhase = .running ∧ s.mode = .normal ∧ s.mpuUnsafe = false ∧
     s.debugRequested = true) ∧
    (let s := { start [] [] with mode := .debug }
     s.mode = .debug ∧ s.inputs.debugCmd = .idle) ∧
    (let s := { start [] [] with mode := .debug, inputs := { Inputs.quiet with debugCmd := .resume } }
     s.mode = .debug ∧ s.inputs.debugCmd = .resume ∧ s.resetPhase ≠ .onDebugExit) ∧
    (let s := { start [] [] with
       mode := .debug, resetPhase := .onDebugExit, inputs := { Inputs.quiet with debugCmd := .resume } }
     s.mode = .debug ∧ s.inputs.debugCmd = .resume ∧ s.resetPhase = .onDebugExit ∧
     [0, 1, 2, 3].all (fun a => !busError s .fetch a) = true) := by decide +kernel

/-- A debug host that acts by the command `c`. -/
def debugged (c : DebugCmd) : State := { start [] [] with mode := .debug, inputs := { Inputs.quiet with debugCmd := c } }

/-- A state for each write of the debug host: an absent control register, an implemented one, SRCR with the value that resets
and with another. -/
theorem test_witness_ModeSteps_host :
    (debugged (.writeReg 20 1)).mode = .debug ∧ (debugged (.writeReg 20 1)).inputs.debugCmd = .writeReg 20 1 ∧
    (debugged (.writePc 3)).inputs.debugCmd = .writePc 3 ∧
    ((debugged (.writeByte 0 1)).mem.wf = true ∧ (debugged (.writeByte 0 1)).inputs.debugCmd = .writeByte 0 1) ∧
    crOf (debugged (.writeCr 3 0 1)).cfg.hasVbr 3 0 = none ∧
    crOf (debugged (.writeCr 0 0 1)).cfg.hasVbr 0 0 = some .psr ∧
    (crOf (debugged (.writeCr 31 0 1)).cfg.hasVbr 31 0 = some .srcr ∧ 1 ≠ config.srcrMagic) ∧
    (let s := debugged (.writeCr 31 0 config.srcrMagic)
     s.inputs.reset = false ∧ s.mode = .debug ∧ s.inputs.debugCmd = .writeCr 31 0 s.cfg.srcrMagic) := by decide +kernel

theorem test_witness_ResetResults :
    (let s := { start [] [] with inputs := { Inputs.quiet with reset := true } }
     [0, 1, 2, 3].all (fun a => !busError s .fetch a) = true ∧ s.inputs.reset = true) ∧
    (let s := start [(5, Config.atReset.srcrMagic)] []
     [0, 1, 2, 3].all (fun a => !busError s .fetch a) = true ∧ s.psr.s = true ∧ s.mode ≠ .debug ∧ s.slotOf 5 = some 5 ∧
     s.reg 5 = s.cfg.srcrMagic) := by decide +kernel

/-- An instruction that writes a register, and one that raises an exception. -/
theorem test_witness_RegisterFrame :
    (∃ t, exec (.addu32 3 1 2) (start [] []) = .next t ∧ t.softResets = (start [] []).softResets ∧
      (4 : Slot) ∉ destinations (start [] []) (.addu32 3 1 2)) ∧
    ∃ t, exec (.trap32 3) (start [] []) = .next t ∧ t.softResets = (start [] []).softResets :=
  ⟨⟨_, rfl, rfl, by decide +kernel⟩, test_goesOn (by decide +kernel)⟩

/-- A store, and an instruction that stores nothing. -/
theorem test_witness_MemoryFrame :
    (∃ t, exec (.st16w 3 1 0) (start [(1, 0x2000)] []) = .next t ∧ (start [(1, 0x2000)] []).mem.wf = true ∧
      (0x2004 : Word) ∉ storeTargets (start [(1, 0x2000)] []) (.st16w 3 1 0) ∧
      (0x1FFF : Word) ∉ storeTargets (start [(1, 0x2000)] []) (.st16w 3 1 0)) ∧
    ∃ t, exec (.cmpne16 3 1) (start [] []) = .next t ∧ storeTargets (start [] []) (.cmpne16 3 1) = [] := by
  obtain ⟨t, h⟩ := test_goes (o := exec (.st16w 3 1 0) (start [(1, 0x2000)] [])) (by decide +kernel)
  exact ⟨⟨t, h, by decide +kernel, by decide +kernel, by decide +kernel⟩, _, rfl, rfl⟩

theorem test_witness_StatusFrame :
    ∃ t, exec (.trap32 0) (start [] []) = .next t ∧ t.softResets = (start [] []).softResets :=
  test_goesOn (by decide +kernel)

theorem test_witness_ControlFrame :
    ∃ t, exec .rte32 (start [] []) = .next t ∧ t.softResets = (start [] []).softResets := ⟨_, rfl, rfl⟩

/-- An exception, BKPT into debug mode, and an ordinary instruction, in user mode. -/
theorem test_witness_UserModeConfined :
    (∃ t, (user []).psr.s = false ∧ exec (.trap32 1) (user []) = .next t) ∧
    (∃ t, exec .bkpt16 { user [] with inputs := { Inputs.quiet with fdb := true } } = .next t) ∧
    ∃ t, exec (.addu16 3 14) (user []) = .next t := by
  obtain ⟨t, h⟩ := test_goes (o := exec (.trap32 1) (user [])) (by decide +kernel)
  exact ⟨⟨t, by decide +kernel, h⟩, test_goes (by decide +kernel), test_goes (by decide +kernel)⟩

theorem test_witness_SupervisorStackSecret : (user [(16, 0x3000)]).psr.s = false := by decide +kernel

theorem test_witness_StoreThenLoad : (start [] [(0xFFFFFFFE, .word, 0x12345678)]).mem.wf = true := by decide +kernel

theorem test_witness_ByteOrders : (start [] [(0x2000, .word, 0x12345678)]).mem.wf = true := by decide +kernel

/-- No regions; the MPU off; an address in no region; an address that region 2 decides and region 1 covers too. -/
theorem test_witness_ProtectionRule :
    ({ config with mpuRegions := 0 } : Config).mpuRegions = 0 ∧ (start [] []).mp = 0 ∧
    (let s := oneRegion []
     s.cfg.mpuRegions ≠ 0 ∧ s.mp = 1 ∧ (∀ i : Fin 8, regionMalformed s i = false) ∧
     (∀ i : Fin 8, ¬ (regionEnabled s i = true ∧ pacrCovers s.pacr[i] 0x400 = true))) ∧
    (let s := guarded [] []
     (∀ i : Fin 8, regionMalformed s i = false) ∧ (regionEnabled s 1 = true ∧ pacrCovers s.pacr[(1 : Fin 8)] 0x20001000 = true) ∧
     (regionEnabled s 2 = true ∧ pacrCovers s.pacr[(2 : Fin 8)] 0x20001000 = true) ∧
     ∀ j : Fin 8, 2 < j → ¬ (regionEnabled s j = true ∧ pacrCovers s.pacr[j] 0x20001000 = true)) := by decide +kernel

/-- The smallest region and the whole address space. -/
theorem test_witness_RegionRange : pacrWellFormed 0x20000413 = true ∧ pacrWellFormed 0x3F = true := by decide +kernel

end Sys2Proof.Tests
end

section
/-! SUPPORT. What each part of a step can do, once: the rules of Laws/Exec.lean carried on from `exec` through the fetch, the
boundary and the modes to `step`. An invariant of `step` cites these and never unfolds a part of the step. -/

namespace Sys2Proof.Machine

variable {s : State} {P : State → Prop}

theorem ensures_runInstr (hi : ∀ i, Ensures (exec i s) P) (he : ∀ e, Ensures (takeException e s) P) :
    Ensures (runInstr s) P := by
  unfold runInstr
  cases fetchDecode s with
  | instr i => exact hi i
  | exc e => exact he e
  | refuse r => exact ensures_refused

theorem ensures_boundary (hd : s.debugRequested = true → P { s with mode := .debug })
    (hv : ∀ v, s.pendingInterrupt = some v → Ensures (takeInterrupt v s) P) (hr : Ensures (runInstr s) P) :
    Ensures (boundary s) P := by
  refine ensures_ite (fun _ => ensures_refused) fun _ => ensures_ite (fun h => ensures_next (hd h)) fun _ => ?_
  cases h : s.pendingInterrupt with
  | some v => exact hv v h
  | none => exact hr

theorem ensures_lowPowerStep (hd : s.debugRequested = true → P { s with mode := .debug })
    (hw : Ensures (boundary { s with mode := .normal }) P) (hs : P s) : Ensures (lowPowerStep s) P :=
  ensures_ite (fun h => ensures_next (hd h)) fun _ => ensures_ite (fun _ => hw) fun _ => ensures_next hs

theorem ensures_debugStep (hs : P s) (hreg : ∀ r v, P (s.setReg r v)) (hpc : ∀ v, P (s.setPc v))
    (hcr : ∀ n sel cr v, crOf s.cfg.hasVbr n sel = some cr → P (writeCr s v cr))
    (hreset : Ensures (softwareReset s) P)
    (hbyte : ∀ a b, P { s with mem := s.mem.write a b, written := noteStored s [a] })
    (hexit : Ensures (takeReset s) P) (hresume : P { s with mode := .normal }) : Ensures (debugStep s) P := by
  unfold debugStep
  cases s.inputs.debugCmd with
  | idle => exact ensures_next hs
  | writeReg r v => exact ensures_next (hreg r v)
  | writePc v => exact ensures_next (hpc v)
  | writeCr n sel v =>
    dsimp only
    split
    · exact ensures_refused
    · next cr h => exact ensures_ite (fun _ => hreset) fun _ => ensures_next (hcr n sel cr v h)
  | writeByte a b => exact ensures_next (hbyte a b)
  | resume => exact ensures_ite (fun _ => hexit) fun _ => ensures_next hresume

theorem ensures_normalStep (hb : Ensures (boundary s) P) (hv : Ensures (readResetVector s) P)
    (hr : Ensures (takeReset s) P) : Ensures (normalStep s) P := by
  unfold normalStep
  cases s.resetPhase with
  | running => exact hb
  | vectorPending => exact hv
  | onDebugExit => exact hr

theorem ensures_stepCore (hr : Ensures (takeReset s) P) (hn : s.mode = .normal → Ensures (normalStep s) P)
    (hl : ∀ k, s.mode = .lowPower k → Ensures (lowPowerStep s) P) (hd : s.mode = .debug → Ensures (debugStep s) P) :
    Ensures (stepCore s) P := by
  refine ensures_ite (fun _ => hr) fun _ => ?_
  cases h : s.mode with
  | normal => exact hn h
  | lowPower k => exact hl k h
  | debug => exact hd h

/-- A step ends with the environment moved on. -/
theorem ensures_step (h : Ensures (stepCore s) fun t => P t.tick) : Ensures (step s) P := by
  intro t e
  unfold step at e
  cases hc : stepCore s with
  | next u =>
    rw [hc] at e
    cases e
    exact h u hc
  | fault f => rw [hc] at e; cases e
  | refused r => rw [hc] at e; cases e

end Sys2Proof.Machine
end

section
/-! The configuration is constant (00_scope R8): every part of a step keeps it, and so does a step. -/

namespace Sys2Proof.Machine

/-- If `o` is a next state, it has the configuration of `s`. -/
def KeepsConfig (s : State) (o : Outcome) : Prop := Ensures o fun t => t.cfg = s.cfg

/-! ### Exceptions and reset -/

theorem takeException_keepsConfig (e : Exc) (s : State) : KeepsConfig s (takeException e s) :=
  ensures_takeException fun _ => rfl

theorem takeInterrupt_keepsConfig (v : Byte) (s : State) : KeepsConfig s (takeInterrupt v s) :=
  ensures_takeInterrupt fun _ => rfl

theorem readResetVector_keepsConfig (s : State) : KeepsConfig s (readResetVector s) :=
  ensures_readResetVector fun _ => rfl

theorem takeReset_keepsConfig (s : State) : KeepsConfig s (takeReset s) :=
  ensures_takeReset fun w => (setPc_cfg _ w).trans (resetRegisters_cfg s)

theorem softwareReset_keepsConfig (s : State) : KeepsConfig s (softwareReset s) :=
  ensures_softwareReset (fun _ => rfl) fun _ w => (setPc_cfg _ w).trans (resetRegisters_cfg _)

/-! ### Instructions -/

@[simp] theorem writeCr_cfg (s : State) (v : Word) (cr : Cr) : (writeCr s v cr).cfg = s.cfg := by
  cases cr
  case ccr | pacr | prsr => unfold writeCr; dsimp only; split <;> rfl
  all_goals rfl

theorem partial_cfg {i : Instr} {s u : State} (h : Partial i s u) : u.cfg = s.cfg := by
  obtain ⟨_, _, _, _, rfl, _⟩ := h; rfl

theorem systemEffect_cfg {i : Instr} {s t : State} (h : SystemEffect i s t) : t.cfg = s.cfg := by
  cases h with
  | writeCr => exact writeCr_cfg _ _ _
  | reset _ _ _ _ _ ht => exact softwareReset_keepsConfig s t ht
  | nie _ _ hu => exact (partial_cfg hu :)
  | enables | rte | nir | lowPower => rfl

theorem outcomes_cfg {i : Instr} {s t : State} (h : Outcomes i s t) : t.cfg = s.cfg := by
  cases h with
  | completes _ _ _ _ hu => exact (partial_cfg hu :)
  | exception _ _ _ hu => exact (partial_cfg hu :)
  | interrupt _ _ _ hu => exact (partial_cfg hu :)
  | debug => rfl
  | system _ _ _ ht => exact systemEffect_cfg ht

theorem exec_keepsConfig (i : Instr) (s : State) : KeepsConfig s (exec i s) :=
  fun t ht => outcomes_cfg (exec_outcomes i s t ht)

/-! ### Steps -/

theorem boundary_keepsConfig (s : State) : KeepsConfig s (boundary s) :=
  ensures_boundary (fun _ => rfl) (fun v _ => takeInterrupt_keepsConfig v s)
    (ensures_runInstr (fun i => exec_keepsConfig i s) fun e => takeException_keepsConfig e s)

theorem normalStep_keepsConfig (s : State) : KeepsConfig s (normalStep s) :=
  ensures_normalStep (boundary_keepsConfig s) (readResetVector_keepsConfig s) (takeReset_keepsConfig s)

theorem lowPowerStep_keepsConfig (s : State) : KeepsConfig s (lowPowerStep s) :=
  ensures_lowPowerStep (fun _ => rfl) (boundary_keepsConfig { s with mode := .normal }) rfl

theorem debugStep_keepsConfig (s : State) : KeepsConfig s (debugStep s) :=
  ensures_debugStep (hs := rfl) (hreg := fun _ _ => rfl) (hpc := fun _ => rfl)
    (hcr := fun _ _ cr v _ => writeCr_cfg s v cr) (hreset := softwareReset_keepsConfig s) (hbyte := fun _ _ => rfl)
    (hexit := takeReset_keepsConfig s) (hresume := rfl)

theorem stepCore_keepsConfig (s : State) : KeepsConfig s (stepCore s) :=
  ensures_stepCore (takeReset_keepsConfig s) (fun _ => normalStep_keepsConfig s) (fun _ _ => lowPowerStep_keepsConfig s)
    fun _ => debugStep_keepsConfig s

/-- Settles O7: every part of a step keeps the configuration, and the environment's tick does. -/
theorem stepKeepsConfig : Obligations.StepKeepsConfig := by
  unfold Obligations.StepKeepsConfig
  intro s
  exact ensures_step fun t ht => (tick_cfg t).trans (stepCore_keepsConfig s t ht)

end Sys2Proof.Machine
end

section
/-! SUPPORT. One equation for each command of the debug host (60_exceptions R661, R662), and which control register is written
by an MTCR and what it leaves alone (10_state R31). -/

namespace Sys2Proof.Machine

/-! ### Commands of the debug host -/

theorem debugStep_idle {s : State} (h : s.inputs.debugCmd = .idle) : debugStep s = .next s := by
  simp only [debugStep, h]

theorem debugStep_writeReg {s : State} {r : Slot} {v : Word} (h : s.inputs.debugCmd = .writeReg r v) :
    debugStep s = .next (s.setReg r v) := by simp only [debugStep, h]

theorem debugStep_writePc {s : State} {v : Word} (h : s.inputs.debugCmd = .writePc v) :
    debugStep s = .next (s.setPc v) := by simp only [debugStep, h]

theorem debugStep_writeCr_absent {s : State} {n sel : BitVec 5} {v : Word} (h : s.inputs.debugCmd = .writeCr n sel v)
    (hcr : crOf s.cfg.hasVbr n sel = none) : debugStep s = .refused .noSuchControlRegister := by
  simp only [debugStep, h, hcr]

theorem debugStep_writeCr {s : State} {n sel : BitVec 5} {v : Word} {cr : Cr} (h : s.inputs.debugCmd = .writeCr n sel v)
    (hcr : crOf s.cfg.hasVbr n sel = some cr) :
    debugStep s = if triggersReset s v cr then softwareReset s else .next (writeCr s v cr) := by
  simp only [debugStep, h, hcr]

theorem debugStep_writeByte {s : State} {a : Word} {b : Byte} (h : s.inputs.debugCmd = .writeByte a b) :
    debugStep s = .next { s with mem := s.mem.write a b, written := noteStored s [a] } := by
  simp only [debugStep, h]

theorem debugStep_resume {s : State} (h : s.inputs.debugCmd = .resume) :
    debugStep s = if s.resetPhase = .onDebugExit then takeReset s else .next { s with mode := .normal } := by
  simp only [debugStep, h]

/-! ### Writing a control register -/

theorem triggersReset_iff {s : State} {v : Word} {cr : Cr} :
    triggersReset s v cr = true ↔ cr = .srcr ∧ v = s.cfg.srcrMagic := by
  simp only [triggersReset, Bool.and_eq_true, beq_iff_eq]

/-- VBR is implemented only where the configuration has it (10_state R44). -/
theorem hasVbr_of_crOf_vbr {hasVbr : Bool} {n sel : BitVec 5} (h : crOf hasVbr n sel = some .vbr) : hasVbr = true := by
  unfold crOf at h
  split at h
  case h_2 => exact Option.ite_none_right_eq_some.mp h |>.1
  all_goals cases h

/-- PSR is CR<0,0> and no other (10_state R33). -/
theorem crOf_eq_psr {hasVbr : Bool} {n sel : BitVec 5} (h : crOf hasVbr n sel = some .psr) : n = 0 ∧ sel = 0 := by
  unfold crOf at h
  split at h
  case h_1 => exact ⟨rfl, rfl⟩
  case h_2 => cases (Option.ite_none_right_eq_some.mp h).2
  all_goals cases h

theorem writeCr_ccr (s : State) (v : Word) :
    writeCr s v .ccr = if s.cfg.mpuRegions.val = 0 then s else { s with mp := v.extractLsb' 0 2 } := rfl

theorem writeCr_prsr (s : State) (v : Word) :
    writeCr s v .prsr = if s.cfg.mpuRegions.val = 0 then s else { s with rid := v.extractLsb' 0 3 } := rfl

theorem writeCr_pacr_none {s : State} (h : selectedRegion s = none) (v : Word) : writeCr s v .pacr = s := by
  simp only [writeCr, h]

theorem writeCr_pacr_some {s : State} {i : Fin 8} (h : selectedRegion s = some i) (v : Word) :
    writeCr s v .pacr = { s with pacr := s.pacr.set i (v &&& pacrMask) } := by simp only [writeCr, h]

/-- PRSR selects only regions the configuration has (92 D6). -/
theorem selectedRegion_lt {s : State} {i : Fin 8} (h : selectedRegion s = some i) : i.val < s.cfg.mpuRegions.val := by
  obtain ⟨hlt, hi⟩ := Option.ite_none_right_eq_some.mp h
  cases hi
  exact hlt

/-- Only a write of PSR changes PSR. -/
theorem writeCr_psr_of_ne (s : State) (v : Word) {cr : Cr} (h : cr ≠ .psr) : (writeCr s v cr).psr = s.psr := by
  cases cr
  case psr => exact absurd rfl h
  case ccr | pacr | prsr => unfold writeCr; dsimp only; split <;> rfl
  all_goals rfl

/-- No control register holds the environment or a pending reset. -/
theorem writeCr_environment (s : State) (v : Word) (cr : Cr) :
    (writeCr s v cr).inputs = s.inputs ∧ (writeCr s v cr).schedule = s.schedule ∧
      (writeCr s v cr).resetPhase = s.resetPhase := by
  cases cr
  case ccr | pacr | prsr => unfold writeCr; dsimp only; split <;> exact ⟨rfl, rfl, rfl⟩
  all_goals exact ⟨rfl, rfl, rfl⟩

end Sys2Proof.Machine
end

section
/-! The invariant of the machine (10_state R25, R40, R44, R46, R52, R62; 92 D6, D8): every update of the state keeps it, so
every part of a step does, and it holds after reset. -/

namespace Sys2Proof.Machine

/-! ### Bits of the masks -/

/-- An address whose bit 0 was cleared is even (10_state R25). -/
theorem clearBit0_even (a : Word) : (a &&& 0xFFFFFFFE#32).getLsbD 0 = false := by
  rw [BitVec.getLsbD_and, show (0xFFFFFFFE#32).getLsbD 0 = false from rfl, Bool.and_false]

/-- The PC stays even when it moves on by an even number of bytes. -/
theorem add_even {p n : Word} (hp : p.getLsbD 0 = false) (hn : n.getLsbD 0 = false) : (p + n).getLsbD 0 = false := by
  simp only [BitVec.getLsbD_add (Nat.zero_lt_succ 31), BitVec.carry_zero, hp, hn, Bool.xor_false]

/-- A value cut to the bits of a mask has no others. -/
theorem and_mask_and_mask (v m : Word) : v &&& m &&& m = v &&& m := by rw [BitVec.and_assoc, BitVec.and_self]

theorem nextPc_even {s : State} {p : Word} (hs : s.pc.getLsbD 0 = false) (hp : NextPc s p) : p.getLsbD 0 = false := by
  rcases hp with rfl | rfl | ⟨a, rfl⟩
  · exact add_even hs rfl
  · exact add_even hs rfl
  · exact clearBit0_even a

/-! ### Updates of the state -/

section Updates

variable {s : State}

theorem inv_setPc (h : s.Inv) (a : Word) : (s.setPc a).Inv := { h with pcEven := clearBit0_even a }

theorem inv_advance (h : s.Inv) {n : Word} (hn : n.getLsbD 0 = false) : (s.advance n).Inv :=
  { h with pcEven := add_even h.pcEven hn }

theorem inv_setReg (h : s.Inv) (r : Slot) (v : Word) : (s.setReg r v).Inv := { h with }

theorem inv_partial {i : Instr} {u : State} (h : s.Inv) (hu : Partial i s u) : u.Inv := by
  obtain ⟨g, n, m, w, rfl, -, hm⟩ := hu
  exact { h with memWf := (hm h.memWf).1 }

/-- The mode may change outside debug mode, where no reset waits. -/
theorem inv_withMode (h : s.Inv) (hs : s.mode ≠ .debug) {m : Mode} (hm : m = .debug → s.cfg.hasDebug = true) :
    ({ s with mode := m } : State).Inv :=
  { h with
    debugAbsent := fun hd e => by simp [hm e] at hd
    resetWaits := fun hp => absurd (h.resetWaits hp) hs }

theorem inv_withPsr (h : s.Inv) {p : Psr} (hp : s.cfg.hasBctm = false → p.bm = false) :
    ({ s with psr := p } : State).Inv := { h with bmAbsent := hp }

/-- PSR from a word has no BM without the binary code translation mechanism (10_state R40). -/
theorem ofWord_bm_absent {b : Bool} (hb : b = false) (w : Word) : (Psr.ofWord b w).bm = false := by
  simp only [Psr.ofWord, hb, Bool.false_and]

theorem inv_enterVector (h : s.Inv) (hs : s.mode ≠ .debug) (v : Byte) (e : Word) : (s.enterVector v e).Inv :=
  { inv_withMode (m := .normal) h hs (fun hd => by cases hd) with bmAbsent := h.bmAbsent }

theorem inv_returnFromException (h : s.Inv) : s.returnFromException.Inv :=
  inv_setPc (inv_withPsr h fun hb => ofWord_bm_absent hb s.epsr) s.epc

/-- A region the configuration has takes any value of the writable bits (10_state R52). -/
theorem inv_setPacr (h : s.Inv) {i : Fin 8} (hi : i.val < s.cfg.mpuRegions.val) {v : Word} (hv : v &&& pacrMask = v) :
    ({ s with pacr := s.pacr.set i v } : State).Inv := by
  have get (j : Fin 8) : (s.pacr.set i v)[j] = if i = j then v else s.pacr[j] := by
    simp only [Fin.getElem_fin, Vector.getElem_set, Fin.ext_iff]
  refine { h with pacrReserved := fun j => ?_, pacrRegions := fun j hj => ?_ }
  · show (s.pacr.set i v)[j] &&& pacrMask = (s.pacr.set i v)[j]
    rw [get]
    split
    · exact hv
    · exact h.pacrReserved j
  · show (s.pacr.set i v)[j] = 0
    have hij : i ≠ j := by rintro rfl; exact absurd hi (Nat.not_lt.mpr hj)
    rw [get, if_neg hij]
    exact h.pacrRegions j hj

theorem inv_writeCr (h : s.Inv) {n sel : BitVec 5} {cr : Cr} (hcr : crOf s.cfg.hasVbr n sel = some cr) (v : Word) :
    (writeCr s v cr).Inv := by
  cases cr with
  | psr => exact inv_withPsr h fun hb => ofWord_bm_absent hb v
  | vbr =>
    refine { h with vbrAligned := ?_, vbrAbsent := fun hv => ?_ }
    · show v &&& 0xFFFFFC00#32 &&& 0x3FF#32 = 0
      rw [BitVec.and_assoc, show 0xFFFFFC00#32 &&& 0x3FF#32 = 0#32 from rfl, BitVec.and_zero]; rfl
    · exact absurd (hasVbr_of_crOf_vbr hcr) (by simp [show s.cfg.hasVbr = false from hv])
  | gcr => exact { h with gcrWidth := and_mask_and_mask v _ }
  | capr => exact { h with caprRegions := and_mask_and_mask v _ }
  | ccr =>
    rw [writeCr_ccr]
    split
    · exact h
    · next hn => exact { h with mpuAbsent := fun e => absurd e hn }
  | prsr =>
    rw [writeCr_prsr]
    split
    · exact h
    · next hn => exact { h with mpuAbsent := fun e => absurd e hn }
  | pacr =>
    cases hi : selectedRegion s with
    | none => rw [writeCr_pacr_none hi]; exact h
    | some i => rw [writeCr_pacr_some hi]; exact inv_setPacr h (selectedRegion_lt hi) (and_mask_and_mask v _)
  | epsr | epc => exact { h with }
  | gsr | cpuidr | srcr => exact h
  | userSp => exact inv_setReg h _ v

/-- A region that exists keeps a free base and size after reset, and is disabled (10_state R52, 70_reset R701). -/
theorem resetRegisters_pacr (s : State) (i : Fin 8) :
    s.resetRegisters.pacr[i] =
      if i.val < s.cfg.mpuRegions.val then s.freeWord (24 + i.val) &&& 0xFFFFFC3E#32 else 0 := by
  simp only [State.resetRegisters, Fin.getElem_fin, Vector.getElem_ofFn]

theorem inv_resetRegisters (h : s.Inv) : s.resetRegisters.Inv where
  pcEven := by rw [resetRegisters_pc]; exact h.pcEven
  memWf := by rw [resetRegisters_mem]; exact h.memWf
  vbrAligned := by rw [resetRegisters_vbr]; rfl
  vbrAbsent _ := resetRegisters_vbr s
  bmAbsent _ := by rw [resetRegisters_psr]; rfl
  gcrWidth := and_mask_and_mask _ _
  caprRegions := by rw [resetRegisters_capr]; exact BitVec.zero_and
  pacrReserved i := by
    rw [resetRegisters_pacr]
    split
    · rw [BitVec.and_assoc]; rfl
    · rfl
  pacrRegions i hi := (resetRegisters_pacr s i).trans (if_neg (Nat.not_lt.mpr hi))
  mpuAbsent hn := ⟨resetRegisters_mp s, if_pos hn⟩
  debugAbsent _ := by rw [resetRegisters_mode]; exact Mode.noConfusion
  resetWaits := by rw [resetRegisters_resetPhase]; exact ResetPhase.noConfusion

theorem inv_tick (h : s.Inv) : s.tick.Inv := by
  unfold State.tick
  split
  · exact h
  · exact { h with }

end Updates

/-! ### Exceptions, interrupts and reset -/

section Steps

variable {s : State} (h : s.Inv)

include h

theorem takeException_inv (hs : s.mode ≠ .debug) (e : Exc) : Ensures (takeException e s) State.Inv :=
  ensures_takeException fun w => inv_setPc (inv_enterVector h hs _ _) w

theorem takeInterrupt_inv (hs : s.mode ≠ .debug) (v : Byte) : Ensures (takeInterrupt v s) State.Inv :=
  ensures_takeInterrupt fun w => inv_setPc (inv_enterVector h hs _ _) w

theorem readResetVector_inv : Ensures (readResetVector s) State.Inv :=
  ensures_readResetVector fun w => inv_setPc (s := { s with resetPhase := .running }) { h with resetWaits := nofun } w

theorem takeReset_inv : Ensures (takeReset s) State.Inv :=
  ensures_takeReset fun w => inv_setPc (inv_resetRegisters h) w

theorem softwareReset_inv : Ensures (softwareReset s) State.Inv :=
  ensures_softwareReset (fun hd => { h with resetWaits := fun _ => hd })
    fun _ w => inv_setPc (inv_resetRegisters (s := { s with softResets := s.softResets + 1 }) { h with }) w

/-! ### Instructions -/

theorem systemEffect_inv {i : Instr} {t : State} (hs : s.mode = .normal) (ht : SystemEffect i s t) : t.Inv := by
  cases ht with
  | writeCr _ _ _ _ v _ hcr _ =>
    refine inv_advance (n := 4) ?_ rfl
    exact { inv_writeCr h hcr v with }
  | reset _ _ _ _ _ ht => exact softwareReset_inv h t ht
  | enables _ _ _ _ =>
    refine inv_advance (n := 4) ?_ rfl
    exact inv_withPsr h h.bmAbsent
  | rte _ => exact inv_returnFromException h
  | nie _ u hu =>
    refine inv_advance (n := 2) ?_ rfl
    exact inv_withPsr (inv_partial h hu) fun hb => h.bmAbsent (partial_cfg hu ▸ hb)
  | nir _ v w a =>
    exact inv_returnFromException (inv_setReg (s := { s with epsr := v, epc := w }) { h with } s.spSlot a)
  | lowPower k _ =>
    refine inv_advance (n := 4) ?_ rfl
    exact inv_withMode h (by simp [hs]) nofun

theorem outcomes_inv {i : Instr} {t : State} (hs : s.mode = .normal) (ht : Outcomes i s t) : t.Inv := by
  have mode_ne {u : State} (hu : Partial i s u) : u.mode ≠ .debug := by
    obtain ⟨_, _, _, _, rfl, -⟩ := hu
    simp [hs]
  cases ht with
  | completes u c b p hu _ hb hp =>
    have bm : u.cfg.hasBctm = false → b = false := fun e => by
      rw [partial_cfg hu] at e
      rcases hb with rfl | ⟨hb, -⟩
      · exact h.bmAbsent e
      · simp [e] at hb
    exact { inv_withPsr (p := { s.psr with c := c, bm := b }) (inv_partial h hu) bm with
            pcEven := nextPc_even h.pcEven hp }
  | exception u e w hu => exact inv_setPc (inv_enterVector (inv_partial h hu) (mode_ne hu) _ _) w
  | interrupt u v w hu _ _ _ => exact inv_setPc (inv_enterVector (inv_partial h hu) (mode_ne hu) _ _) w
  | debug _ hd => exact inv_withMode h (by simp [hs]) fun _ => hd
  | system t _ _ ht => exact systemEffect_inv h hs ht

theorem exec_inv (hs : s.mode = .normal) (i : Instr) : Ensures (exec i s) State.Inv :=
  fun t ht => outcomes_inv h hs (exec_outcomes i s t ht)

/-! ### Steps -/

theorem enterDebug_inv (hs : s.mode ≠ .debug) (hd : s.debugRequested = true) :
    ({ s with mode := .debug } : State).Inv :=
  inv_withMode h hs fun _ => (Bool.and_eq_true_iff.mp hd).1

theorem boundary_inv (hs : s.mode = .normal) : Ensures (boundary s) State.Inv :=
  have ne : s.mode ≠ .debug := by simp [hs]
  ensures_boundary (enterDebug_inv h ne) (fun v _ => takeInterrupt_inv h ne v)
    (ensures_runInstr (exec_inv h hs) (takeException_inv h ne))

theorem lowPowerStep_inv {k : LowPower} (hs : s.mode = .lowPower k) : Ensures (lowPowerStep s) State.Inv :=
  have ne : s.mode ≠ .debug := by simp [hs]
  ensures_lowPowerStep (enterDebug_inv h ne) (boundary_inv (inv_withMode h ne nofun) rfl) h

theorem normalStep_inv (hs : s.mode = .normal) : Ensures (normalStep s) State.Inv :=
  ensures_normalStep (boundary_inv h hs) (readResetVector_inv h) (takeReset_inv h)

/-- The debug host can leave debug mode only if no reset waits; if one does, the command is the reset. -/
theorem debugStep_inv : Ensures (debugStep s) State.Inv := by
  cases hc : s.inputs.debugCmd with
  | idle => rw [debugStep_idle hc]; exact ensures_next h
  | writeReg r v => rw [debugStep_writeReg hc]; exact ensures_next (inv_setReg h r v)
  | writePc v => rw [debugStep_writePc hc]; exact ensures_next (inv_setPc h v)
  | writeCr n sel v =>
    cases hcr : crOf s.cfg.hasVbr n sel with
    | none => rw [debugStep_writeCr_absent hc hcr]; exact ensures_refused
    | some cr =>
      rw [debugStep_writeCr hc hcr]
      exact ensures_ite (fun _ => softwareReset_inv h) fun _ => ensures_next (inv_writeCr h hcr v)
  | writeByte a b =>
    rw [debugStep_writeByte hc]
    exact ensures_next { h with memWf := Memory.wf_write _ a b h.memWf }
  | resume =>
    rw [debugStep_resume hc]
    exact ensures_ite (fun _ => takeReset_inv h) fun hp =>
      ensures_next { h with debugAbsent := fun _ => nofun, resetWaits := fun e => absurd e hp }

theorem stepCore_inv : Ensures (stepCore s) State.Inv :=
  ensures_stepCore (takeReset_inv h) (normalStep_inv h) (fun _ => lowPowerStep_inv h) fun _ => debugStep_inv h

end Steps

/-- Settles O5: every part of a step keeps the invariant, and the environment's tick does. -/
theorem stepKeepsInv : Obligations.StepKeepsInv := by
  unfold Obligations.StepKeepsInv
  intro s t h
  exact ensures_step (fun u hu => inv_tick (stepCore_inv h u hu)) t

/-- Settles O6. -/
theorem resetInv : Obligations.ResetInv where
  pcEven := rfl
  memWf := rfl
  vbrAligned := rfl
  vbrAbsent := fun _ => rfl
  bmAbsent := fun _ => rfl
  gcrWidth := rfl
  caprRegions := rfl
  pacrReserved := by decide
  pacrRegions := by decide
  mpuAbsent := nofun
  debugAbsent := fun _ => nofun
  resetWaits := nofun

end Sys2Proof.Machine
end

section
/-! What an instruction may change of PSR and of the other control registers (10_state R28 to R45): read off the forms of its
next state. -/

namespace Sys2Proof.Machine

/-- The software reset is the one thing that raises the flag signal (10_state R62). -/
theorem softwareReset_softResets (s : State) : Ensures (softwareReset s) fun t => t.softResets = s.softResets + 1 :=
  ensures_softwareReset (fun _ => rfl) fun _ w => (setPc_softResets _ w).trans (resetRegisters_softResets _)

/-- A step that keeps the count of software resets is none. -/
theorem softwareReset_ne {s t : State} (ht : softwareReset s = .next t) : t.softResets ≠ s.softResets := by
  rw [softwareReset_softResets s t ht]
  exact Nat.succ_ne_self _

/-- Settles O53: an instruction that loads PSR may change all of it; of the others, each form of a next state changes the bits
the statement names. -/
theorem statusFrame : Obligations.StatusFrame := by
  unfold Obligations.StatusFrame
  intro i s t h hsr loads entry
  by_cases hl : loads
  · have hc : writesC i = true := by rcases hl with rfl | rfl | ⟨x, rfl⟩ <;> rfl
    exact ⟨.inr hc, .inr hl, .inr (.inl hl), .inr (.inl hl), .inr (.inl hl)⟩
  cases exec_outcomes i s t h with
  | completes u c b p hu hc hb hp =>
    exact ⟨hc, .inl ⟨rfl, rfl⟩, hb.imp_right fun hb => .inr hb.2, .inl ⟨rfl, rfl⟩, .inl ⟨rfl, rfl⟩⟩
  | exception u _ _ hu | interrupt u _ _ hu _ _ _ =>
    obtain ⟨_, _, _, _, rfl, -⟩ := hu
    have entered : entry := ⟨rfl, rfl, rfl, rfl, rfl⟩
    exact ⟨.inl rfl, .inl ⟨rfl, rfl⟩, .inl rfl, .inr (.inr entered), .inr (.inr (.inl entered))⟩
  | debug _ _ => exact ⟨.inl rfl, .inl ⟨rfl, rfl⟩, .inl rfl, .inl ⟨rfl, rfl⟩, .inl ⟨rfl, rfl⟩⟩
  | system _ _ _ ht =>
    cases ht with
    | writeCr x n sel cr v hi hcr b =>
      have hp : cr ≠ .psr := by
        rintro rfl
        obtain ⟨rfl, rfl⟩ := crOf_eq_psr hcr
        exact hl (.inr (.inr ⟨x, hi⟩))
      simp [writeCr_psr_of_ne s v hp]
    | reset _ _ _ _ _ ht => exact absurd hsr (softwareReset_ne ht)
    | enables m _ _ hi =>
      exact ⟨.inl rfl, .inl ⟨rfl, rfl⟩, .inl rfl, .inl ⟨rfl, rfl⟩, .inr (.inr (.inr (.inr ⟨m, hi⟩)))⟩
    | rte hi => exact absurd (.inl hi) hl
    | nie hi _ _ => exact ⟨.inl rfl, .inl ⟨rfl, rfl⟩, .inl rfl, .inl ⟨rfl, rfl⟩, .inr (.inr (.inr (.inl hi)))⟩
    | nir hi _ _ _ => exact absurd (.inr (.inl hi)) hl
    | lowPower _ _ => exact ⟨.inl rfl, .inl ⟨rfl, rfl⟩, .inl rfl, .inl ⟨rfl, rfl⟩, .inl ⟨rfl, rfl⟩⟩

/-- Settles O54: only MTCR, NIR and exception entry are among the forms of a next state that write one of these registers. -/
theorem controlFrame : Obligations.ControlFrame := by
  unfold Obligations.ControlFrame
  intro i s t h hsr
  cases exec_outcomes i s t h with
  | completes u _ _ _ hu _ _ _ =>
    obtain ⟨_, _, _, _, rfl, -⟩ := hu
    exact ⟨.inr ⟨rfl, rfl, rfl, rfl, rfl, rfl⟩, .inr (.inr (.inl ⟨rfl, rfl⟩)), rfl, rfl, rfl⟩
  | exception u _ _ hu | interrupt u _ _ hu _ _ _ =>
    obtain ⟨_, _, _, _, rfl, -⟩ := hu
    exact ⟨.inr ⟨rfl, rfl, rfl, rfl, rfl, rfl⟩, .inr (.inr (.inr ⟨rfl, rfl⟩)), rfl, rfl, rfl⟩
  | debug _ _ => exact ⟨.inr ⟨rfl, rfl, rfl, rfl, rfl, rfl⟩, .inr (.inr (.inl ⟨rfl, rfl⟩)), rfl, rfl, rfl⟩
  | system _ _ _ ht =>
    cases ht with
    | writeCr x n sel cr v hi _ _ =>
      exact ⟨.inl ⟨x, n, sel, hi⟩, .inl ⟨x, n, sel, hi⟩, writeCr_environment s v cr⟩
    | reset _ _ _ _ _ ht => exact absurd hsr (softwareReset_ne ht)
    | nie _ u hu =>
      obtain ⟨_, _, _, _, rfl, -⟩ := hu
      exact ⟨.inr ⟨rfl, rfl, rfl, rfl, rfl, rfl⟩, .inr (.inr (.inl ⟨rfl, rfl⟩)), rfl, rfl, rfl⟩
    | nir hi _ _ _ => exact ⟨.inr ⟨rfl, rfl, rfl, rfl, rfl, rfl⟩, .inr (.inl hi), rfl, rfl, rfl⟩
    | enables | rte | lowPower =>
      exact ⟨.inr ⟨rfl, rfl, rfl, rfl, rfl, rfl⟩, .inr (.inr (.inl ⟨rfl, rfl⟩)), rfl, rfl, rfl⟩

end Sys2Proof.Machine
end

section
/-! SUPPORT. What a permitted access answers, where a privileged instruction and a register field lead, and the parts of a step
in each mode. -/

namespace Sys2Proof.Machine

/-! ### Permitted accesses -/

/-- With CCR.MP = 00 the MPU permits every access (20_memory R111). -/
theorem mpuCheck_of_disabled {s : State} (h : s.mp = 0) (kind : AccessKind) (supervisor : Bool) (a : Word) :
    mpuCheck s kind supervisor a = .permit := by
  unfold mpuCheck
  rw [if_pos (show s.mp = 0b00#2 from h), ite_self]

theorem mpuCheckAll_of_permit {s : State} {kind : AccessKind} {supervisor : Bool} {l : List Word}
    (h : ∀ a ∈ l, mpuCheck s kind supervisor a = .permit) : mpuCheckAll s kind supervisor l = .permit := by
  induction l with
  | nil => rfl
  | cons a rest ih =>
    rw [List.forall_mem_cons] at h
    simp only [mpuCheckAll, h.1, ih h.2]

theorem checkAccess_of_permits {s : State} {kind : AccessKind} {supervisor : Bool} {bytes bus : List Word}
    (h : Permits s kind supervisor bytes bus) : checkAccess s kind supervisor bytes bus = .done () := by
  have hbus : bus.any (busError s kind) = false := List.any_eq_false.mpr fun a ha => by simp [h.2 a ha]
  simp only [checkAccess, mpuCheckAll_of_permit h.1, hbus, Bool.false_eq_true, if_false]

theorem readVectorWord_of_permits {s : State} {a : Word}
    (h : Permits s .fetch true (byteAddresses a 4) (byteAddresses a 4)) :
    readVectorWord s a = .done (s.mem.load s.cfg.bigEndian a .word) := by
  simp only [readVectorWord, checkAccess_of_permits h]

/-! ### Privileged instructions and register fields -/

theorem privileged_of_supervisor {s : State} (h : s.psr.s = true) (k : Outcome) : privileged s k = k := if_pos h

theorem withReg_of_slot {s : State} {n : BitVec 5} {r : Slot} (h : s.slotOf n = some r) (k : Slot → Outcome) :
    withReg s n k = k r := by simp only [withReg, h]

/-- MFCR of a control register the core has (47_system R492). -/
theorem exec_mfcr32 {s : State} {rz n sel : BitVec 5} {z : Slot} {cr : Cr} (hs : s.psr.s = true)
    (hz : s.slotOf rz = some z) (hcr : crOf s.cfg.hasVbr n sel = some cr) :
    exec (.mfcr32 rz n sel) s = .next ((s.setReg z (readCr s cr)).advance 4) := by
  show execMfcr32 rz n sel s = _
  simp only [execMfcr32, privileged_of_supervisor hs, withReg_of_slot hz, hcr, finish]

/-- MTCR of a control register the core has (47_system R493). -/
theorem exec_mtcr32 {s : State} {rx n sel : BitVec 5} {x : Slot} {cr : Cr} (hs : s.psr.s = true)
    (hx : s.slotOf rx = some x) (hcr : crOf s.cfg.hasVbr n sel = some cr) :
    exec (.mtcr32 rx n sel) s =
      if triggersReset s (s.reg x) cr then softwareReset s
      else .next ({ writeCr s (s.reg x) cr with
        mpuUnsafe := s.mpuUnsafe || (cr == Cr.ccr && enablesMpuUnsafely (writeCr s (s.reg x) cr) s.pc) }.advance 4) := by
  show execMtcr32 rx n sel s = _
  simp only [execMtcr32, privileged_of_supervisor hs, withReg_of_slot hx, hcr, finish]

/-! ### Parts of a step -/

theorem step_of_next {s t : State} (h : stepCore s = .next t) : step s = .next t.tick := by
  simp only [step, h, tickOutcome]

theorem stepCore_of_reset {s : State} (h : s.inputs.reset = true) : stepCore s = takeReset s := if_pos h

section Modes

variable {s : State} (h : s.inputs.reset = false)

include h

theorem stepCore_of_normal (hm : s.mode = .normal) : stepCore s = normalStep s := by
  simp only [stepCore, h, hm, Bool.false_eq_true, if_false]

theorem stepCore_of_lowPower {k : LowPower} (hm : s.mode = .lowPower k) : stepCore s = lowPowerStep s := by
  simp only [stepCore, h, hm, Bool.false_eq_true, if_false]

theorem stepCore_of_debug (hm : s.mode = .debug) : stepCore s = debugStep s := by
  simp only [stepCore, h, hm, Bool.false_eq_true, if_false]

end Modes

/-- After power-on the reset vector is still to be read (log 5). -/
theorem normalStep_of_vectorPending {s : State} (h : s.resetPhase = .vectorPending) :
    normalStep s = readResetVector s := by
  simp only [normalStep, h]

theorem normalStep_of_running {s : State} (h : s.resetPhase = .running) : normalStep s = boundary s := by
  simp only [normalStep, h]

/-- A debug request at a boundary comes before any interrupt or instruction (60_exceptions R634). -/
theorem boundary_of_debugRequested {s : State} (hu : s.mpuUnsafe = false) (hd : s.debugRequested = true) :
    boundary s = .next { s with mode := .debug } := by
  simp only [boundary, hu, hd, Bool.false_eq_true, if_false, if_true]

end Sys2Proof.Machine
end

section
/-! Reset (10_state R60 to R62, R70; 70_reset R700 to R703): what it leaves, by the reset input, by software and at power-on. -/

namespace Sys2Proof.Machine

/-- With the MPU off and no error answer of the bus the reset vector goes to the PC (70_reset R702). -/
theorem readResetVector_of_disabled {s : State} (hmp : s.mp = 0)
    (hbus : ∀ a ∈ [0, 1, 2, 3], busError s .fetch a = false) :
    readResetVector s =
      .next (({ s with resetPhase := .running } : State).setPc (s.mem.load s.cfg.bigEndian 0 .word)) := by
  have permits : Permits s .fetch true (byteAddresses 0 4) (byteAddresses 0 4) :=
    ⟨fun a _ => mpuCheck_of_disabled hmp .fetch true a, by rw [byteAddresses_four]; exact hbus⟩
  simp only [readResetVector, readVectorWord_of_permits permits]

theorem takeReset_of_noBusError {s : State} (hbus : ∀ a ∈ [0, 1, 2, 3], busError s .fetch a = false) :
    takeReset s = .next (s.resetRegisters.setPc (s.mem.load s.cfg.bigEndian 0 .word)) := by
  have hbus' : ∀ a ∈ [0, 1, 2, 3], busError s.resetRegisters .fetch a = false := by
    simpa only [busError, resetRegisters_cfg] using hbus
  rw [takeReset, readResetVector_of_disabled (resetRegisters_mp s) hbus', resetRegisters_mem, resetRegisters_cfg]
  simp only [State.resetRegisters]

/-- No region is enabled after reset (10_state R52, R70). -/
theorem resetRegisters_pacr_disabled (s : State) (i : Fin 8) : s.resetRegisters.pacr[i].getLsbD 0 = false := by
  rw [resetRegisters_pacr]
  split
  · rw [BitVec.getLsbD_and, show (0xFFFFFC3E#32).getLsbD 0 = false from rfl, Bool.and_false]
  · rfl

/-- The registers after reset, with the PC from the reset vector, are what the spec says reset leaves. -/
theorem takeReset_afterReset {s : State} (hbus : ∀ a ∈ [0, 1, 2, 3], busError s .fetch a = false) :
    ∃ t, takeReset s = .next t ∧ AfterReset s t ∧ t.softResets = s.softResets := by
  refine ⟨_, takeReset_of_noBusError hbus, ?_, (setPc_softResets _ _).trans (resetRegisters_softResets s)⟩
  simp only [AfterReset, setPc_psr, setPc_vbr, setPc_mp, setPc_capr, setPc_pacr, setPc_mode, setPc_resetPhase, setPc_mem,
    setPc_cfg, setPc_pc, resetRegisters_psr, resetRegisters_vbr, resetRegisters_mp, resetRegisters_capr,
    resetRegisters_pacr_disabled, resetRegisters_mode, resetRegisters_resetPhase, resetRegisters_mem, resetRegisters_cfg,
    implies_true, and_self]

theorem afterReset_tick {s t : State} (h : AfterReset s t) : AfterReset s t.tick := by
  simpa only [AfterReset, tick_psr, tick_vbr, tick_mp, tick_capr, tick_pacr, tick_mode, tick_resetPhase, tick_mem, tick_cfg,
    tick_pc] using h

/-- A step that resets the machine (log 31). -/
theorem step_afterReset {s : State} (h : stepCore s = takeReset s)
    (hbus : ∀ a ∈ [0, 1, 2, 3], busError s .fetch a = false) : ∃ t, step s = .next t ∧ AfterReset s t := by
  obtain ⟨t, ht, after, -⟩ := takeReset_afterReset hbus
  exact ⟨t.tick, step_of_next (h.trans ht), afterReset_tick after⟩

/-- Outside debug mode a software reset happens at once (10_state R62). -/
theorem softwareReset_of_ne_debug {s : State} (h : s.mode ≠ .debug) :
    softwareReset s = takeReset { s with softResets := s.softResets + 1 } := if_neg h

/-- In debug mode a software reset waits until debug mode is left (10_state R62). -/
theorem softwareReset_of_debug {s : State} (h : s.mode = .debug) :
    softwareReset s = .next { s with softResets := s.softResets + 1, resetPhase := .onDebugExit } := if_pos h

/-- CR<31,0> is SRCR in every configuration (10_state R31). -/
theorem crOf_srcr (hasVbr : Bool) : crOf hasVbr 31 0 = some .srcr := rfl

/-- Settles O50. -/
theorem resetResults : Obligations.ResetResults := by
  unfold Obligations.ResetResults
  intro s hbus
  refine ⟨fun hr => step_afterReset (stepCore_of_reset hr) hbus, fun rx x hs hm hx hv => ?_⟩
  have trigger : triggersReset s (s.reg x) .srcr = true := triggersReset_iff.mpr ⟨rfl, hv⟩
  rw [exec_mtcr32 hs hx (crOf_srcr _), if_pos trigger, softwareReset_of_ne_debug hm]
  exact takeReset_afterReset (s := { s with softResets := s.softResets + 1 }) hbus

/-- Settles O49: the step after power-on reads the reset vector with the MPU off. -/
theorem powerOnReset : Obligations.PowerOnReset := by
  refine ⟨⟨by decide, rfl, rfl, rfl, by decide, rfl⟩, fun m => step_of_next (t := { State.reset with
    mem := m, resetPhase := .running, pc := m.load State.reset.cfg.bigEndian 0 .word &&& 0xFFFFFFFE#32 }) ?_⟩
  rw [stepCore_of_normal rfl rfl, normalStep_of_vectorPending rfl, readResetVector_of_disabled rfl fun _ _ => rfl]
  rfl

/-- Settles O36. -/
theorem resetRegisterRule : Obligations.ResetRegisterRule := by
  unfold Obligations.ResetRegisterRule
  intro s r q hs hq
  refine ⟨exec_mfcr32 hs hq (crOf_srcr _), fun hv => ?_⟩
  have noTrigger : ¬ triggersReset s (s.reg q) .srcr = true := fun h => hv (triggersReset_iff.mp h).2
  rw [exec_mtcr32 hs hq (crOf_srcr _), if_neg noTrigger]
  simp only [writeCr, show (Cr.srcr == Cr.ccr) = false from rfl, Bool.false_and, Bool.or_false]

end Sys2Proof.Machine
end

section
/-! PSR as a word, and the steps of the modes and of the debug host (10_state R33 to R43, R62, R64;
60_exceptions R641, R660 to R662). -/

namespace Sys2Proof.Machine

/-- Settles O37: bit by bit, the field of the word that holds the bit. -/
theorem statusWord : Obligations.StatusWord := by
  unfold Obligations.StatusWord
  refine fun p b => ⟨fun k hk => ?_, ofWord_toWord p b⟩
  simp only [Psr.toWord, BitVec.getLsbD_append, BitVec.getLsbD_ofBool, BitVec.getLsbD_zero]
  interval_cases k <;> simp

/-! ### Low power -/

section LowPower

variable {s : State}

theorem lowPowerStep_of_idle (hd : s.debugRequested = false) (hi : s.inputs.intRaw = false) : lowPowerStep s = .next s := by
  simp only [lowPowerStep, hd, hi, Bool.false_eq_true, if_false]

theorem lowPowerStep_of_debugRequested (hd : s.debugRequested = true) :
    lowPowerStep s = .next { s with mode := .debug } := if_pos hd

/-- The step that wakes is that of normal mode (92 D23; log 29). -/
theorem lowPowerStep_of_intRaw (hd : s.debugRequested = false) (hi : s.inputs.intRaw = true) :
    lowPowerStep s = boundary { s with mode := .normal } := by
  simp only [lowPowerStep, hd, hi, Bool.false_eq_true, if_false, if_true]

end LowPower

theorem step_eq_of_stepCore_eq {s t : State} (h : stepCore s = stepCore t) : step s = step t := by rw [step, step, h]

/-- Settles O48: each mode's step, and in debug mode each command of the host. -/
theorem modeSteps : Obligations.ModeSteps := by
  unfold Obligations.ModeSteps
  intro s hr
  refine ⟨fun k hm => ⟨fun hd hi => ?_, fun hd => ?_, fun hd hi hp => ?_⟩, fun hm hp hu hd => ?_, fun hm => ?_⟩
  · exact step_of_next ((stepCore_of_lowPower hr hm).trans (lowPowerStep_of_idle hd hi))
  · exact step_of_next ((stepCore_of_lowPower hr hm).trans (lowPowerStep_of_debugRequested hd))
  · refine step_eq_of_stepCore_eq ?_
    rw [stepCore_of_lowPower hr hm, lowPowerStep_of_intRaw hd hi,
      stepCore_of_normal (s := { s with mode := .normal }) hr rfl,
      normalStep_of_running (s := { s with mode := .normal }) hp]
  · refine step_of_next ?_
    rw [stepCore_of_normal hr hm, normalStep_of_running hp, boundary_of_debugRequested hu hd]
  have core : stepCore s = debugStep s := stepCore_of_debug hr hm
  have does {t : State} (h : debugStep s = .next t) : step s = .next t.tick := step_of_next (core.trans h)
  refine ⟨fun hc => does (debugStep_idle hc), fun r v hc => does (debugStep_writeReg hc),
    fun v hc => does (debugStep_writePc hc), fun n sel v hc => ⟨fun hcr => ?_, fun cr hcr hv => ?_⟩,
    fun a b hwf hc => ?_, fun hc => ?_, fun hp hc => ?_, fun hp hbus hc => ?_⟩
  · rw [step, core, debugStep_writeCr_absent hc hcr]
    rfl
  · have noTrigger : ¬ triggersReset s v cr = true := by
      rw [triggersReset_iff]
      exact not_and_or.mpr hv
    exact does ((debugStep_writeCr hc hcr).trans (if_neg noTrigger))
  · exact ⟨_, _, does (debugStep_writeByte hc), (Memory.read_write s.mem a a b hwf).trans (if_pos rfl),
      fun c hne => (Memory.read_write s.mem a c b hwf).trans (if_neg hne)⟩
  · have trigger : triggersReset s s.cfg.srcrMagic .srcr = true := triggersReset_iff.mpr ⟨rfl, rfl⟩
    refine does ?_
    rw [debugStep_writeCr hc (crOf_srcr _), if_pos trigger, softwareReset_of_debug hm]
  · exact does ((debugStep_resume hc).trans (if_neg hp))
  · exact step_afterReset (core.trans ((debugStep_resume hc).trans (if_pos hp))) hbus

end Sys2Proof.Machine
end

section
/-! SUPPORT. A general register does not matter to an access: written before it or after it, it leaves the same. -/

namespace Sys2Proof.Machine

/-- Applies a function to the value of an access. -/
def Result.map {α β : Type} (f : α → β) : Result α → Result β
  | .done a => .done (f a)
  | .exc e => .exc e
  | .refuse r => .refuse r

/-- Applies a function to the state a transfer of several words leaves. -/
def Xfer.map (f : State → State) : Xfer → Xfer
  | .done t => .done (f t)
  | .exc e t => .exc e (f t)
  | .refuse r => .refuse r
  | .interrupted v t => .interrupted v (f t)

/-! ### One access -/

theorem mpuCheckAll_setReg (s : State) (r : Slot) (x : Word) (kind : AccessKind) (supervisor : Bool) (l : List Word) :
    mpuCheckAll (s.setReg r x) kind supervisor l = mpuCheckAll s kind supervisor l := by
  induction l with
  | nil => rfl
  | cons a rest ih =>
    simp only [mpuCheckAll, ih]
    rfl

theorem checkAccess_setReg (s : State) (r : Slot) (x : Word) (kind : AccessKind) (supervisor : Bool)
    (bytes bus : List Word) :
    checkAccess (s.setReg r x) kind supervisor bytes bus = checkAccess s kind supervisor bytes bus := by
  unfold checkAccess
  rw [mpuCheckAll_setReg]
  rfl

theorem readData_setReg (multi : Bool) (s : State) (r : Slot) (x a : Word) (w : Width) :
    readData multi (s.setReg r x) a w = readData multi s a w := by
  unfold readData
  simp only [checkAccess_setReg]
  rfl

theorem readVectorWord_setReg (s : State) (r : Slot) (x a : Word) :
    readVectorWord (s.setReg r x) a = readVectorWord s a := by
  unfold readVectorWord
  rw [checkAccess_setReg]
  rfl

theorem writeData_setReg (multi : Bool) (s : State) (r : Slot) (x a : Word) (w : Width) (y : Word) :
    writeData multi (s.setReg r x) a w y = (writeData multi s a w y).map (·.setReg r x) := by
  unfold writeData
  rw [show effectiveAddress (s.setReg r x) multi a w = effectiveAddress s multi a w from rfl]
  cases effectiveAddress s multi a w with
  | none => rfl
  | some b =>
    dsimp only
    rw [checkAccess_setReg, setReg_psr]
    cases checkAccess s .write s.psr.s (byteAddresses b w.bytes) (byteAddresses b w.bytes) <;> rfl

theorem setReg_comm (s : State) {r q : Slot} (h : r ≠ q) (x y : Word) :
    (s.setReg r x).setReg q y = (s.setReg q y).setReg r x := by
  have hv : r.val ≠ q.val := fun e => h (Fin.ext e)
  simp only [State.setReg, Vector.set_comm _ _ hv]

/-! ### Transfers of several words -/

/-- The words are loaded as before if the register is not in the list. -/
theorem loadWords_setReg (lost : Option Slot) {r : Slot} (x : Word) (l : List (Word × Slot)) :
    ∀ (n : Nat) (s : State), (∀ q ∈ l.map Prod.snd, q ≠ r) →
      loadWords lost l n (s.setReg r x) = (loadWords lost l n s).map (·.setReg r x) := by
  induction l with
  | nil => intro n s _; rfl
  | cons p rest ih =>
    intro n s hl
    obtain ⟨a, q⟩ := p
    rw [List.map_cons, List.forall_mem_cons] at hl
    obtain ⟨hq, hrest⟩ := hl
    have next (y : Word) (k : Nat) :
        loadWords lost rest (n + 1) { (s.setReg r x).setReg q y with freeCount := k } =
          (loadWords lost rest (n + 1) { s.setReg q y with freeCount := k }).map (·.setReg r x) := by
      rw [setReg_comm s hq.symm]
      exact ih (n + 1) { s.setReg q y with freeCount := k } hrest
    rw [loadWords, loadWords, readData_setReg,
      show (s.setReg r x).interruptAfter n = s.interruptAfter n from rfl]
    cases s.interruptAfter n with
    | some b => rfl
    | none =>
      cases readData true s a .word with
      | exc e => rfl
      | refuse c => rfl
      | done y =>
        dsimp only
        split
        · exact next _ _
        · exact next y s.freeCount

theorem storeWords_setReg (split : Bool) (r : Slot) (x : Word) (l : List (Word × Word)) :
    ∀ (n : Nat) (s : State), storeWords split l n (s.setReg r x) = (storeWords split l n s).map (·.setReg r x) := by
  induction l with
  | nil => intro n s; rfl
  | cons p rest ih =>
    intro n s
    obtain ⟨a, y⟩ := p
    rw [storeWords, storeWords, writeData_setReg,
      show (s.setReg r x).interruptAfter n = s.interruptAfter n from rfl]
    cases (if split then s.interruptAfter n else none) with
    | some b => rfl
    | none =>
      cases writeData true s a .word y with
      | exc e => rfl
      | refuse c => rfl
      | done t => exact ih (n + 1) t

end Sys2Proof.Machine
end

section
/-! No instruction of user mode sees the supervisor stack pointer (10_state R22, 60_exceptions R646): the same instruction is
run beside itself in a state that differs there, and each shape in which it can run keeps the two outcomes the same but for
that register. -/

namespace Sys2Proof.Machine

/-- The state with another supervisor stack pointer. -/
def State.withSpv (s : State) (v : Word) : State := s.setReg slotSpvSp v

/-- The outcome `o'` is `o` with the supervisor stack pointer `v` in its next state. -/
def SameButSpv (v : Word) (o o' : Outcome) : Prop := o' = mapNext (fun t => t.withSpv v) o

/-! ### Registers that user mode names -/

theorem slot3_ne_spv (n : BitVec 3) : slot3 n ≠ slotSpvSp := by
  revert n
  decide

theorem slot4_user_ne_spv (n : BitVec 4) : slot4 false n ≠ slotSpvSp := by
  revert n
  decide

theorem slot5_user_ne_spv {b : Bool} {n : BitVec 5} {r : Slot} (h : slot5 b false n = some r) : r ≠ slotSpvSp := by
  have key : ∀ (b : Bool) (n : BitVec 5), slot5 b false n ≠ some slotSpvSp := by decide
  rintro rfl
  exact key b n h

theorem pushPopList_ne_spv {r15 : BitVec 1} {list1 : BitVec 4} : ∀ r ∈ pushPopList r15 list1, r ≠ slotSpvSp := by
  intro r hr
  rcases List.mem_append.mp hr with h | h
  · exact (by decide : ∀ r ∈ ([4, 5, 6, 7, 8, 9, 10, 11] : List Slot), r ≠ slotSpvSp) r (List.mem_of_mem_take h)
  · split at h
    · rw [List.mem_singleton.mp h]; decide
    · cases h

theorem ldmList_user_ne_spv {ry imm5 : BitVec 5} {l : List Slot} (h : ldmList false ry imm5 = some l) :
    ∀ r ∈ l, r ≠ slotSpvSp := by
  obtain ⟨-, hl⟩ := Option.ite_none_right_eq_some.mp h
  cases hl
  intro r hr
  obtain ⟨k, -, rfl⟩ := List.mem_map.mp hr
  exact slot4_user_ne_spv _

/-! ### The state with another supervisor stack pointer -/

section WithSpv

variable (s : State) (v : Word)

theorem withSpv_setReg {r : Slot} (h : r ≠ slotSpvSp) (x : Word) : (s.withSpv v).setReg r x = (s.setReg r x).withSpv v :=
  setReg_comm s h.symm v x

theorem reg_withSpv {r : Slot} (h : r ≠ slotSpvSp) : (s.withSpv v).reg r = s.reg r := reg_setReg_ne s v h

theorem reg3_withSpv (n : BitVec 3) : (s.withSpv v).reg3 n = s.reg3 n := reg_withSpv s v (slot3_ne_spv n)

theorem readData_withSpv (multi : Bool) (a : Word) (w : Width) :
    readData multi (s.withSpv v) a w = readData multi s a w := readData_setReg multi s slotSpvSp v a w

end WithSpv

/-! ### Rules for outcomes -/

section Rules

variable {s : State} {v : Word}

theorem sameButSpv_next (t : State) : SameButSpv v (.next t) (.next (t.withSpv v)) := rfl

theorem sameButSpv_refused (r : Refusal) : SameButSpv v (.refused r) (.refused r) := rfl

theorem sameButSpv_ite {c : Prop} [Decidable c] {a a' b b' : Outcome} (ha : SameButSpv v a a') (hb : SameButSpv v b b') :
    SameButSpv v (if c then a else b) (if c then a' else b') := by
  split
  · exact ha
  · exact hb

theorem sameButSpv_finish (n : Word) (t : State) : SameButSpv v (finish n t) (finish n (t.withSpv v)) := rfl

theorem sameButSpv_finishAt {a a' : Word} (h : a' = a) (t : State) :
    SameButSpv v (finishAt a t) (finishAt a' (t.withSpv v)) := by
  rw [h]
  rfl

theorem sameButSpv_takeVector (b : Byte) (e : Word) (t : State) :
    SameButSpv v (takeVector b e t) (takeVector b e (t.withSpv v)) := by
  have read : readVectorWord ((t.withSpv v).enterVector b e) (((t.withSpv v).enterVector b e).vectorAddress b) =
      readVectorWord (t.enterVector b e) ((t.enterVector b e).vectorAddress b) :=
    readVectorWord_setReg (t.enterVector b e) slotSpvSp v _
  unfold SameButSpv takeVector
  dsimp only
  rw [read]
  cases readVectorWord (t.enterVector b e) ((t.enterVector b e).vectorAddress b) <;> rfl

theorem sameButSpv_takeException (e : Exc) (t : State) : SameButSpv v (takeException e t) (takeException e (t.withSpv v)) :=
  sameButSpv_takeVector _ _ t

theorem sameButSpv_takeInterrupt (b : Byte) (t : State) : SameButSpv v (takeInterrupt b t) (takeInterrupt b (t.withSpv v)) :=
  sameButSpv_ite (sameButSpv_refused _) (sameButSpv_takeVector b _ t)

theorem sameButSpv_result {α : Type} {r : Result α} {k k' : α → Outcome} (hk : ∀ a, SameButSpv v (k a) (k' a)) :
    SameButSpv v (r.andThen s k) (r.andThen (s.withSpv v) k') := by
  cases r with
  | done a => exact hk a
  | exc e => exact sameButSpv_takeException e s
  | refuse q => exact sameButSpv_refused q

theorem sameButSpv_readData {m : Bool} {a a' : Word} {w : Width} {k k' : Word → Outcome} (ha : a' = a)
    (hk : ∀ x, SameButSpv v (k x) (k' x)) :
    SameButSpv v ((readData m s a w).andThen s k) ((readData m (s.withSpv v) a' w).andThen (s.withSpv v) k') := by
  rw [ha, readData_withSpv]
  exact sameButSpv_result hk

theorem sameButSpv_withAlignedBase {a a' : Word} {b : Bool} {k k' : Outcome} (ha : a' = a) (hk : SameButSpv v k k') :
    SameButSpv v (withAlignedBase a b s k) (withAlignedBase a' b (s.withSpv v) k') := by
  rw [ha]
  exact sameButSpv_ite hk (sameButSpv_takeException _ s)

theorem sameButSpv_bctmOnly {k k' : Outcome} (hk : SameButSpv v k k') :
    SameButSpv v (bctmOnly s k) (bctmOnly (s.withSpv v) k') := sameButSpv_ite hk (sameButSpv_takeException _ s)

theorem sameButSpv_writeData {m : Bool} {a a' y y' : Word} {w : Width} {k k' : State → Outcome} (ha : a' = a) (hy : y' = y)
    (hk : ∀ t, SameButSpv v (k t) (k' (t.withSpv v))) :
    SameButSpv v ((writeData m s a w y).andThen s k) ((writeData m (s.withSpv v) a' w y').andThen (s.withSpv v) k') := by
  rw [ha, hy, State.withSpv, writeData_setReg]
  cases writeData m s a w y with
  | done t => exact hk t
  | exc e => exact sameButSpv_takeException e s
  | refuse q => exact sameButSpv_refused q

theorem sameButSpv_xfer {x : Xfer} {k k' : State → Outcome} (hk : ∀ t, SameButSpv v (k t) (k' (t.withSpv v))) :
    SameButSpv v (x.andThen k) ((x.map fun t => t.withSpv v).andThen k') := by
  cases x with
  | done t => exact hk t
  | exc e t => exact sameButSpv_takeException e t
  | refuse q => exact sameButSpv_refused q
  | interrupted b t => exact sameButSpv_takeInterrupt b t

theorem sameButSpv_loadWords {lost : Option Slot} {a a' : Word} {l : List Slot} {k k' : State → Outcome} (ha : a' = a)
    (hl : ∀ r ∈ l, r ≠ slotSpvSp) (hk : ∀ t, SameButSpv v (k t) (k' (t.withSpv v))) :
    SameButSpv v ((loadWords lost (wordsFrom a l) 0 s).andThen k)
      ((loadWords lost (wordsFrom a' l) 0 (s.withSpv v)).andThen k') := by
  rw [ha, State.withSpv, loadWords_setReg lost v _ 0 s (by rwa [wordsFrom_snd])]
  exact sameButSpv_xfer hk

theorem sameButSpv_storeWords {sp : Bool} {l l' : List (Word × Word)} {k k' : State → Outcome} (hl : l' = l)
    (hk : ∀ t, SameButSpv v (k t) (k' (t.withSpv v))) :
    SameButSpv v ((storeWords sp l 0 s).andThen k) ((storeWords sp l' 0 (s.withSpv v)).andThen k') := by
  rw [hl, State.withSpv, storeWords_setReg]
  exact sameButSpv_xfer hk

/-- An instruction that goes on `n` bytes with `z` written. -/
theorem sameButSpv_finish_setReg {n : Word} {z : Slot} (hz : z ≠ slotSpvSp) {x x' : Word} (hx : x' = x) (t : State) :
    SameButSpv v (finish n (t.setReg z x)) (finish n ((t.withSpv v).setReg z x')) := by
  rw [hx, withSpv_setReg t v hz]
  exact sameButSpv_finish n _

theorem sameButSpv_finish_setReg_setC {n : Word} {z : Slot} (hz : z ≠ slotSpvSp) {r r' : Word × Bool} (hr : r' = r)
    (t : State) :
    SameButSpv v (finish n ((t.setReg z r.1).setC r.2)) (finish n (((t.withSpv v).setReg z r'.1).setC r'.2)) := by
  rw [hr, withSpv_setReg t v hz]
  exact sameButSpv_finish n ((t.setReg z r.1).setC r.2)

theorem sameButSpv_finish_setC {n : Word} {c c' : Bool} (hc : c' = c) (t : State) :
    SameButSpv v (finish n (t.setC c)) (finish n ((t.withSpv v).setC c')) := by
  rw [hc]
  exact sameButSpv_finish n (t.setC c)

end Rules

/-! ### Shapes of instructions in user mode -/

section Shapes

variable {s : State} {v : Word} (hu : s.psr.s = false)

include hu

theorem slot4_ne_spv (n : BitVec 4) : slot4 s.psr.s n ≠ slotSpvSp := by
  rw [hu]
  exact slot4_user_ne_spv n

theorem reg4_withSpv (n : BitVec 4) : (s.withSpv v).reg4 n = s.reg4 n := reg_withSpv s v (slot4_ne_spv hu n)

theorem spSlot_ne_spv : s.spSlot ≠ slotSpvSp := by
  rw [spSlot_eq, hu]
  decide

theorem regSp_withSpv : (s.withSpv v).reg (s.withSpv v).spSlot = s.reg s.spSlot := reg_withSpv s v (spSlot_ne_spv hu)

/-- In user mode a privileged instruction does nothing but raise its exception (47_system R491). -/
theorem sameButSpv_privileged {k k' : Outcome} : SameButSpv v (privileged s k) (privileged (s.withSpv v) k') := by
  have violates {t : State} (ht : t.psr.s = false) (k : Outcome) : privileged t k = takeException .privilege t := by
    simp only [privileged, ht, Bool.false_eq_true, if_false]
  rw [violates hu, violates (t := s.withSpv v) hu]
  exact sameButSpv_takeException _ s

theorem sameButSpv_withReg {n : BitVec 5} {k k' : Slot → Outcome} (h : ∀ r, r ≠ slotSpvSp → SameButSpv v (k r) (k' r)) :
    SameButSpv v (withReg s n k) (withReg (s.withSpv v) n k') := by
  unfold withReg
  rw [show (s.withSpv v).slotOf n = s.slotOf n from rfl]
  cases hr : s.slotOf n with
  | none => exact sameButSpv_refused _
  | some r =>
    rw [State.slotOf, hu] at hr
    exact h r (slot5_user_ne_spv hr)

theorem sameButSpv_alu3 {f : Word → Word → Word} {rz rx ry : BitVec 5} :
    SameButSpv v (alu3 f rz rx ry s) (alu3 f rz rx ry (s.withSpv v)) :=
  sameButSpv_withReg hu fun x hx => sameButSpv_withReg hu fun y hy => sameButSpv_withReg hu fun z hz =>
    sameButSpv_finish_setReg hz (by rw [reg_withSpv s v hx, reg_withSpv s v hy]) s

theorem sameButSpv_alu3c {f : Word → Word → Bool → Word × Bool} {rz rx ry : BitVec 5} :
    SameButSpv v (alu3c f rz rx ry s) (alu3c f rz rx ry (s.withSpv v)) :=
  sameButSpv_withReg hu fun x hx => sameButSpv_withReg hu fun y hy => sameButSpv_withReg hu fun z hz =>
    sameButSpv_finish_setReg_setC hz (by rw [reg_withSpv s v hx, reg_withSpv s v hy]; rfl) s

theorem sameButSpv_alu2 {f : Word → Word} {rz rx : BitVec 5} :
    SameButSpv v (alu2 f rz rx s) (alu2 f rz rx (s.withSpv v)) :=
  sameButSpv_withReg hu fun x hx => sameButSpv_withReg hu fun z hz => sameButSpv_finish_setReg hz (by rw [reg_withSpv s v hx]) s

theorem sameButSpv_alu2c {f : Word → Bool → Word × Bool} {rz rx : BitVec 5} :
    SameButSpv v (alu2c f rz rx s) (alu2c f rz rx (s.withSpv v)) :=
  sameButSpv_withReg hu fun x hx => sameButSpv_withReg hu fun z hz =>
    sameButSpv_finish_setReg_setC hz (by rw [reg_withSpv s v hx]; rfl) s

theorem sameButSpv_alu1 {w : Word} {rz : BitVec 5} : SameButSpv v (alu1 w rz s) (alu1 w rz (s.withSpv v)) :=
  sameButSpv_withReg hu fun _ hz => sameButSpv_finish_setReg hz rfl s

theorem sameButSpv_alu2If {c : Bool} {f : Word → Word} {rz rx : BitVec 5} :
    SameButSpv v (alu2If c f rz rx s) (alu2If c f rz rx (s.withSpv v)) :=
  sameButSpv_withReg hu fun x hx => sameButSpv_withReg hu fun z hz => by
    cases c
    · exact sameButSpv_finish 4 s
    · exact sameButSpv_finish_setReg hz (by rw [reg_withSpv s v hx]) s

theorem sameButSpv_test1 {f : Word → Bool} {rx : BitVec 5} : SameButSpv v (test1 f rx s) (test1 f rx (s.withSpv v)) :=
  sameButSpv_withReg hu fun x hx => sameButSpv_finish_setC (by rw [reg_withSpv s v hx]) s

theorem sameButSpv_alu16 {f : Word → Word → Word} {rz rx : BitVec 4} :
    SameButSpv v (alu16 f rz rx s) (alu16 f rz rx (s.withSpv v)) :=
  sameButSpv_finish_setReg (slot4_ne_spv hu rz) (by rw [reg4_withSpv hu, reg4_withSpv hu]) s

theorem sameButSpv_alu16c {f : Word → Word → Bool → Word × Bool} {rz rx : BitVec 4} :
    SameButSpv v (alu16c f rz rx s) (alu16c f rz rx (s.withSpv v)) :=
  sameButSpv_finish_setReg_setC (slot4_ne_spv hu rz) (by rw [reg4_withSpv hu, reg4_withSpv hu]; rfl) s

theorem sameButSpv_unary16 {f : Word → Word} {rz rx : BitVec 4} :
    SameButSpv v (unary16 f rz rx s) (unary16 f rz rx (s.withSpv v)) :=
  sameButSpv_finish_setReg (slot4_ne_spv hu rz) (by rw [reg4_withSpv hu]) s

theorem sameButSpv_load32 {w : Width} {f : Word → Word} {rz rx : BitVec 5} {i : BitVec 12} :
    SameButSpv v (load32 w f rz rx i s) (load32 w f rz rx i (s.withSpv v)) :=
  sameButSpv_withReg hu fun x hx => sameButSpv_withReg hu fun z hz =>
    sameButSpv_readData (by rw [reg_withSpv s v hx]) fun _ => sameButSpv_finish_setReg hz rfl s

theorem sameButSpv_store32 {w : Width} {rz rx : BitVec 5} {i : BitVec 12} :
    SameButSpv v (store32 w rz rx i s) (store32 w rz rx i (s.withSpv v)) :=
  sameButSpv_withReg hu fun x hx => sameButSpv_withReg hu fun z hz =>
    sameButSpv_writeData (by rw [reg_withSpv s v hx]) (reg_withSpv s v hz) fun t => sameButSpv_finish 4 t

theorem sameButSpv_pushList {l : List Slot} (hl : ∀ r ∈ l, r ≠ slotSpvSp) :
    SameButSpv v (pushList l s) (pushList l (s.withSpv v)) := by
  have values : l.map (s.withSpv v).reg = l.map s.reg := List.map_congr_left fun r hr => reg_withSpv s v (hl r hr)
  unfold pushList
  rw [regSp_withSpv hu, values]
  exact sameButSpv_withAlignedBase rfl (sameButSpv_storeWords rfl fun t => sameButSpv_finish_setReg (spSlot_ne_spv hu) rfl t)

theorem sameButSpv_popList {l : List Slot} {k : State → Outcome} (hl : ∀ r ∈ l, r ≠ slotSpvSp)
    (hk : ∀ t, SameButSpv v (k t) (k (t.withSpv v))) : SameButSpv v (popList l s k) (popList l (s.withSpv v) k) := by
  unfold popList
  rw [regSp_withSpv hu]
  refine sameButSpv_withAlignedBase rfl (sameButSpv_loadWords rfl hl fun t => ?_)
  rw [show (s.withSpv v).spSlot = s.spSlot from rfl, withSpv_setReg t v (spSlot_ne_spv hu)]
  exact hk _

end Shapes

/-! ### Shapes of instructions in both modes -/

section BothModes

variable {s : State} {v : Word}

theorem sameButSpv_imm16op {f : Word → Word} {rz rx : BitVec 3} :
    SameButSpv v (imm16op f rz rx s) (imm16op f rz rx (s.withSpv v)) :=
  sameButSpv_finish_setReg (slot3_ne_spv rz) (by rw [reg3_withSpv]) s

theorem sameButSpv_branchIf {k : Nat} {c : Bool} {o : BitVec k} {n : Word} :
    SameButSpv v (branchIf c o n s) (branchIf c o n (s.withSpv v)) :=
  sameButSpv_ite (sameButSpv_finishAt rfl s) (sameButSpv_finish n s)

theorem sameButSpv_load16 {w : Width} {rz : BitVec 3} {a a' : Word} (ha : a' = a) :
    SameButSpv v (load16 w rz a s) (load16 w rz a' (s.withSpv v)) :=
  sameButSpv_readData ha fun _ => sameButSpv_finish_setReg (slot3_ne_spv rz) rfl s

theorem sameButSpv_store16 {w : Width} {rz : BitVec 3} {a a' : Word} (ha : a' = a) :
    SameButSpv v (store16 w rz a s) (store16 w rz a' (s.withSpv v)) :=
  sameButSpv_writeData ha (reg3_withSpv s v rz) fun t => sameButSpv_finish 2 t

theorem sameButSpv_stackOverflow : SameButSpv v (stackOverflow s) (stackOverflow (s.withSpv v)) := by
  unfold stackOverflow
  rw [reg_withSpv s v (by decide : slotSvbr ≠ slotSpvSp), withSpv_setReg s v (by decide : slotLr ≠ slotSpvSp)]
  exact sameButSpv_finishAt rfl _

theorem sameButSpv_bpush {w : Width} {rz : BitVec 3} : SameButSpv v (bpush w rz s) (bpush w rz (s.withSpv v)) := by
  have bsp : slotBsp ≠ slotSpvSp := by decide
  unfold bpush
  rw [reg_withSpv s v bsp, reg_withSpv s v (by decide : slotTop ≠ slotSpvSp)]
  exact sameButSpv_bctmOnly (sameButSpv_ite sameButSpv_stackOverflow
    (sameButSpv_writeData rfl (reg3_withSpv s v rz) fun t => sameButSpv_finish_setReg bsp rfl t))

theorem sameButSpv_bpop {w : Width} {rz : BitVec 3} : SameButSpv v (bpop w rz s) (bpop w rz (s.withSpv v)) := by
  have bsp : slotBsp ≠ slotSpvSp := by decide
  unfold bpop
  rw [reg_withSpv s v bsp, reg_withSpv s v (by decide : slotFp ≠ slotSpvSp)]
  refine sameButSpv_bctmOnly (sameButSpv_ite sameButSpv_stackOverflow (sameButSpv_readData rfl fun x => ?_))
  rw [withSpv_setReg s v (slot3_ne_spv rz)]
  exact sameButSpv_finish_setReg bsp rfl _

end BothModes

/-! ### Instructions -/

theorem sameButSpv_ldm32 {s : State} {v : Word} (hu : s.psr.s = false) (ry rx imm5 : BitVec 5) :
    SameButSpv v (execLdm32 ry rx imm5 s) (execLdm32 ry rx imm5 (s.withSpv v)) := by
  refine sameButSpv_withReg hu fun x hx => ?_
  rw [reg_withSpv s v hx, show (s.withSpv v).psr.s = false from hu, hu]
  cases hl : ldmList false ry imm5 with
  | none => exact sameButSpv_refused _
  | some l =>
    exact sameButSpv_withAlignedBase rfl (sameButSpv_loadWords rfl (ldmList_user_ne_spv hl) fun t => sameButSpv_finish 4 t)

theorem sameButSpv_stm32 {s : State} {v : Word} (hu : s.psr.s = false) (ry rx imm5 : BitVec 5) :
    SameButSpv v (execStm32 ry rx imm5 s) (execStm32 ry rx imm5 (s.withSpv v)) := by
  refine sameButSpv_withReg hu fun x hx => ?_
  rw [reg_withSpv s v hx, show (s.withSpv v).psr.s = false from hu, hu]
  cases hl : ldmList false ry imm5 with
  | none => exact sameButSpv_refused _
  | some l =>
    have values : l.map (s.withSpv v).reg = l.map s.reg :=
      List.map_congr_left fun r hr => reg_withSpv s v (ldmList_user_ne_spv hl r hr)
    dsimp only
    rw [values]
    exact sameButSpv_withAlignedBase rfl (sameButSpv_storeWords rfl fun t => sameButSpv_finish 4 t)

theorem interruptList_ne_spv : ∀ r ∈ interruptList, r ≠ slotSpvSp := by decide

/-- An instruction that links: R15 is written, and control goes to an address that does not depend on R14(spv). -/
theorem sameButSpv_link {s : State} {v a a' x : Word} (ha : a' = a) :
    SameButSpv v (finishAt a (s.setReg slotLr x)) (finishAt a' ((s.withSpv v).setReg slotLr x)) := by
  rw [withSpv_setReg s v (by decide : slotLr ≠ slotSpvSp)]
  exact sameButSpv_finishAt ha _

/-- The instructions of user mode, shape by shape; a privileged one only raises its exception. -/
theorem exec_sameButSpv (i : Instr) {s : State} (v : Word) (hu : s.psr.s = false) :
    SameButSpv v (exec i s) (exec i (s.withSpv v)) := by
  cases i <;> unfold exec
  case addu32 | subu32 | ixh32 | ixw32 | and32 | andn32 | or32 | xor32 | nor32 | lsl32 | lsr32 | asr32 | rotl32 | mult32 =>
    exact sameButSpv_alu3 hu
  case addc32 | subc32 => exact sameButSpv_alu3c hu
  case bclri32 | bseti32 | lsli32 | lsri32 | asri32 | rotli32 | ff0 | ff1 | addi32 | subi32 | andi32 | andni32 | xori32
    | ori32 => exact sameButSpv_alu2 hu
  case lslc32 | lsrc32 | asrc32 | xsr32 | xtrb0 | xtrb1 | xtrb2 | xtrb3 => exact sameButSpv_alu2c hu
  case mvc32 | movi32 | movih32 => exact sameButSpv_alu1 hu
  case bmaski32 => exact sameButSpv_ite (sameButSpv_refused _) (sameButSpv_alu1 hu)
  case incf32 | inct32 | decf32 | dect32 => exact sameButSpv_alu2If hu
  case btsti32 | cmphsi32 | cmplti32 | cmpnei32 => exact sameButSpv_test1 hu
  case addu16 | subu16 | and16 | andn16 | or16 | xor16 | nor16 | lsl16 | lsr16 | asr16 | rotl16 | mult16 =>
    exact sameButSpv_alu16 hu
  case addc16 | subc16 => exact sameButSpv_alu16c hu
  case mov16 | zextb16 | zexth16 | sextb16 | sexth16 | revb16 | revh16 => exact sameButSpv_unary16 hu
  case addi16i8 | subi16i8 | addi16i3 | subi16i3 | bclri16 | bseti16 | lsli16 | lsri16 | asri16 => exact sameButSpv_imm16op
  case addu16r3 | subu16r3 => exact sameButSpv_finish_setReg (slot3_ne_spv _) (by rw [reg3_withSpv, reg3_withSpv]) s
  case movi16 => exact sameButSpv_finish_setReg (slot3_ne_spv _) rfl s
  case mvcv16 => exact sameButSpv_finish_setReg (slot4_ne_spv hu _) rfl s
  case addi16rsp => exact sameButSpv_finish_setReg (slot3_ne_spv _) (by rw [regSp_withSpv hu]) s
  case addi16sp | subi16sp => exact sameButSpv_finish_setReg (spSlot_ne_spv hu) (by rw [regSp_withSpv hu]) s
  case cmphsi16 | cmplti16 | cmpnei16 | btsti16 => exact sameButSpv_finish_setC (by rw [reg3_withSpv]) s
  case cmphs16 | cmplt16 | cmpne16 | tst16 => exact sameButSpv_finish_setC (by rw [reg4_withSpv hu, reg4_withSpv hu]) s
  case tstnbz16 => exact sameButSpv_finish_setC (by rw [reg4_withSpv hu]) s
  case br16 | bt16 | bf16 | br32 | bt32 | bf32 => exact sameButSpv_branchIf
  case bsr32 => exact sameButSpv_link rfl
  case jsr16 => exact sameButSpv_link (reg4_withSpv hu _)
  case jmp16 => exact sameButSpv_finishAt (reg4_withSpv hu _) s
  case jmpix16 =>
    have svbr : slotSvbr ≠ slotSpvSp := by decide
    exact sameButSpv_bctmOnly (sameButSpv_finishAt (by rw [reg3_withSpv, reg_withSpv s v svbr]) s)
  case ld32b | ld32h | ld32w | ld32bs | ld32hs => exact sameButSpv_load32 hu
  case st32b | st32h | st32w => exact sameButSpv_store32 hu
  case ld16b | ld16h | ld16w => exact sameButSpv_load16 (by rw [reg3_withSpv])
  case st16b | st16h | st16w => exact sameButSpv_store16 (by rw [reg3_withSpv])
  case ld16wsp => exact sameButSpv_load16 (by rw [regSp_withSpv hu])
  case st16wsp => exact sameButSpv_store16 (by rw [regSp_withSpv hu])
  case lrw16 => exact sameButSpv_load16 rfl
  case lrw32 => exact sameButSpv_withReg hu fun z hz => sameButSpv_readData rfl fun _ => sameButSpv_finish_setReg hz rfl s
  case ldm32 ry rx imm5 => exact sameButSpv_ldm32 hu ry rx imm5
  case stm32 ry rx imm5 => exact sameButSpv_stm32 hu ry rx imm5
  case push16 => exact sameButSpv_pushList hu pushPopList_ne_spv
  case ipush16 => exact sameButSpv_pushList hu interruptList_ne_spv
  case pop16 => exact sameButSpv_popList hu pushPopList_ne_spv fun t => sameButSpv_finishAt (reg_withSpv t v (by decide)) t
  case ipop16 => exact sameButSpv_popList hu interruptList_ne_spv fun t => sameButSpv_finish 2 t
  case bpush16h | bpush16w => exact sameButSpv_bpush
  case bpop16h | bpop16w => exact sameButSpv_bpop
  case sync32 => exact sameButSpv_finish 4 s
  case bmset32 => exact sameButSpv_bctmOnly (sameButSpv_finish 4 { s with psr := { s.psr with bm := true } })
  case bmclr32 => exact sameButSpv_bctmOnly (sameButSpv_finish 4 { s with psr := { s.psr with bm := false } })
  case trap32 => exact sameButSpv_takeException _ s
  case bkpt16 => exact sameButSpv_ite (sameButSpv_next { s with mode := .debug }) (sameButSpv_takeException _ s)
  case rte32 | stop32 | wait32 | doze32 | mfcr32 | mtcr32 | psrclr32 | psrset32 | nie16 | nir16 =>
    exact sameButSpv_privileged hu

/-- Settles O56: `SameButSpv` of an instruction and itself, written out. -/
theorem supervisorStackSecret : Obligations.SupervisorStackSecret := by
  unfold Obligations.SupervisorStackSecret
  exact fun i s v hu => exec_sameButSpv i v hu

end Sys2Proof.Machine
end

section
/-! Loads and stores in both byte orders (20_memory R80 to R86): what a store leaves and what a load reads, byte by byte. -/

namespace Sys2Proof.Machine

/-! ### A value and its bytes -/

theorem byteAddresses_two (a : Word) : byteAddresses a 2 = [a, a + 1] := rfl

theorem extractByte_ushiftRight (v : Word) (k lo : Nat) : (v >>> k).extractLsb' lo 8 = v.extractLsb' (k + lo) 8 := by
  ext i hi
  simp only [BitVec.getElem_extractLsb', BitVec.getLsbD_ushiftRight, Nat.add_assoc]

theorem disassemble_two (v : Word) : disassemble v 2 = [v.extractLsb' 0 8, v.extractLsb' 8 8] := by
  simp only [disassemble, extractByte_ushiftRight]

theorem disassemble_four (v : Word) :
    disassemble v 4 = [v.extractLsb' 0 8, v.extractLsb' 8 8, v.extractLsb' 16 8, v.extractLsb' 24 8] := by
  simp only [disassemble, extractByte_ushiftRight]

/-- Shifting a value up by eight bits and putting a byte below it appends the byte. -/
theorem shiftLeft_or_byte {n : Nat} (x : BitVec n) (b : Byte) :
    x.setWidth 32 <<< 8 ||| b.setWidth 32 = (x ++ b).setWidth 32 := by
  ext i hi
  rcases Nat.lt_or_ge i 8 with h | h
  · simp [h, BitVec.getLsbD_append]
  · simp [Nat.not_lt.mpr h, BitVec.getLsbD_append, BitVec.getLsbD_of_ge b i h]

theorem assemble_one (x : Byte) : assemble [x] = x.setWidth 32 := by
  rw [assemble, assemble, show (0 : Word) <<< 8 = 0#32 from rfl, BitVec.zero_or]

theorem assemble_two (x y : Byte) : assemble [x, y] = 0#16 ++ y ++ x := by
  rw [assemble, assemble_one, shiftLeft_or_byte]
  apply BitVec.eq_of_toNat_eq
  rw [BitVec.append_assoc, BitVec.toNat_cast, toNat_concat 0#16, BitVec.toNat_ofNat, Nat.zero_mod, Nat.zero_mul, Nat.zero_add,
    BitVec.toNat_setWidth_of_le (by decide)]

theorem assemble_four (x y z u : Byte) : assemble [x, y, z, u] = u ++ z ++ y ++ x := by
  rw [assemble, assemble, assemble, assemble_one, shiftLeft_or_byte, shiftLeft_or_byte, shiftLeft_or_byte]
  exact BitVec.setWidth_eq _

theorem byteOrder_little (l : List Byte) : byteOrder false l = l := rfl

theorem byteOrder_big (l : List Byte) : byteOrder true l = l.reverse := rfl

/-! ### Stored bytes -/

/-- The bytes of a store, in address order, are the bytes of the value in the byte order of the core (20_memory R83, R84). -/
theorem Memory.map_read_store (big : Bool) {m : Memory} (h : m.wf) (a : Word) (w : Width) (v : Word) :
    (byteAddresses a w.bytes).map (m.store big a w v).read = byteOrder big (disassemble v w.bytes) :=
  map_read_writeBytes _ m _ h (byteAddresses_nodup a w) (by
    rw [byteOrder_length, disassemble_length, byteAddresses_length])

theorem Memory.read_store_word (big : Bool) {m : Memory} (h : m.wf) (a v : Word) :
    [(m.store big a .word v).read a, (m.store big a .word v).read (a + 1), (m.store big a .word v).read (a + 2),
      (m.store big a .word v).read (a + 3)] =
      byteOrder big [v.extractLsb' 0 8, v.extractLsb' 8 8, v.extractLsb' 16 8, v.extractLsb' 24 8] := by
  have bytes := Memory.map_read_store big h a .word v
  rwa [Width.bytes, byteAddresses_four, disassemble_four] at bytes

theorem Memory.read_store_half (big : Bool) {m : Memory} (h : m.wf) (a v : Word) :
    [(m.store big a .half v).read a, (m.store big a .half v).read (a + 1)] =
      byteOrder big [v.extractLsb' 0 8, v.extractLsb' 8 8] := by
  have bytes := Memory.map_read_store big h a .half v
  rwa [Width.bytes, byteAddresses_two, disassemble_two] at bytes

/-! ### Loaded bytes -/

theorem Memory.load_word (big : Bool) (m : Memory) (a : Word) :
    m.load big a .word = assemble (byteOrder big [m.read a, m.read (a + 1), m.read (a + 2), m.read (a + 3)]) := by
  rw [Memory.load, Width.bytes, byteAddresses_four]; rfl

theorem Memory.load_half (big : Bool) (m : Memory) (a : Word) :
    m.load big a .half = assemble (byteOrder big [m.read a, m.read (a + 1)]) := rfl

/-- The low `w.bytes` bytes of a value, put together, are the value cut to the width. -/
theorem assemble_disassemble (v : Word) (w : Width) :
    assemble (disassemble v w.bytes) = BitVec.ofNat 32 (v.toNat % 2 ^ (8 * w.bytes)) := by
  apply BitVec.eq_of_toNat_eq
  cases w with
  | byte => simp [Width.bytes, assemble_disassemble_one]
  | half => simp [Width.bytes, assemble_disassemble_two]
  | word => simp [Width.bytes, assemble_disassemble_four, Nat.mod_eq_of_lt v.isLt]

/-- Settles O57: a store, read back, is taken apart into bytes and put together again. -/
theorem storeThenLoad : Obligations.StoreThenLoad := by
  unfold Obligations.StoreThenLoad
  intro m big a v w h
  refine ⟨?_, fun b hb => Memory.read_store_frame big m a w v b h hb, Memory.wf_store big m a w v h⟩
  rw [Memory.load_store big m a w v h, assemble_disassemble]

/-- Settles O58: each byte stored, and each value loaded, in one byte order and in the other. -/
theorem byteOrders : Obligations.ByteOrders := by
  unfold Obligations.ByteOrders
  intro m a v h
  have littleWord := Memory.read_store_word false h a v
  have littleHalf := Memory.read_store_half false h a v
  have bigWord := Memory.read_store_word true h a v
  have bigHalf := Memory.read_store_half true h a v
  simp only [byteOrder_little, byteOrder_big, List.reverse_cons, List.reverse_nil, List.nil_append, List.cons_append,
    List.cons.injEq, and_true] at littleWord littleHalf bigWord bigHalf
  obtain ⟨lw0, lw1, lw2, lw3⟩ := littleWord
  obtain ⟨lh0, lh1⟩ := littleHalf
  obtain ⟨bw0, bw1, bw2, bw3⟩ := bigWord
  obtain ⟨bh0, bh1⟩ := bigHalf
  refine ⟨⟨lw0, lw1, lw2, lw3, lh0, lh1⟩, ⟨bw0, bw1, bw2, bw3, bh0, bh1⟩, ?_, ?_, ?_, ?_⟩
  · exact (Memory.load_word false m a).trans (assemble_four _ _ _ _)
  · exact (Memory.load_half false m a).trans (assemble_two _ _)
  · exact (Memory.load_word true m a).trans (assemble_four _ _ _ _)
  · exact (Memory.load_half true m a).trans (assemble_two _ _)

end Sys2Proof.Machine
end

section
/-! The memory protection unit (20_memory R110 to R114): which addresses a region covers, which region decides, and what it
permits. -/

namespace Sys2Proof.Machine

/-! ### The range of a region -/

/-- Masking off the `k` low bits rounds down to a multiple of 2^k. -/
theorem toNat_and_allOnes_shiftLeft (x : Word) (k : Nat) :
    (x &&& BitVec.allOnes 32 <<< k).toNat = x.toNat / 2 ^ k * 2 ^ k := by
  rw [← BitVec.shiftLeft_ushiftRight, BitVec.toNat_shiftLeft, BitVec.toNat_ushiftRight, Nat.shiftRight_eq_div_pow,
    Nat.shiftLeft_eq, Nat.mod_eq_of_lt ((Nat.div_mul_le_self x.toNat (2 ^ k)).trans_lt x.isLt)]

/-- The field Size of a PACR as a number (10_state R52). -/
theorem pacrSize_eq (p : Word) : pacrSize p = p.toNat / 2 % 32 := by
  simp only [pacrSize, BitVec.extractLsb'_toNat, Nat.shiftRight_eq_div_pow, Nat.pow_one]

/-- The bits 31:10 of a PACR as a number (10_state R52). -/
theorem pacrBase_toNat (p : Word) : (p &&& 0xFFFFFC00#32).toNat = p.toNat / 2 ^ 10 * 2 ^ 10 :=
  toNat_and_allOnes_shiftLeft p 10

theorem pacrWellFormed_iff {p : Word} :
    pacrWellFormed p = true ↔ 9 ≤ pacrSize p ∧ p.toNat / 2 ^ 10 * 2 ^ 10 % 2 ^ (pacrSize p + 1) = 0 := by
  simp only [pacrWellFormed, Bool.and_eq_true, decide_eq_true_eq, pacrBase_toNat]

theorem pacrCovers_iff {p a : Word} :
    pacrCovers p a = true ↔ a.toNat / 2 ^ (pacrSize p + 1) = p.toNat / 2 ^ (pacrSize p + 1) := by
  simp only [pacrCovers, beq_iff_eq, ← BitVec.toNat_inj, BitVec.toNat_ushiftRight, Nat.shiftRight_eq_div_pow]

/-- The bits of a PACR below its base do not matter above the size, which is at least 2^10. -/
theorem div_pow_clear_low {n k : Nat} (x : Nat) (h : k ≤ n) : x / 2 ^ k * 2 ^ k / 2 ^ n = x / 2 ^ n := by
  obtain ⟨d, rfl⟩ := Nat.exists_eq_add_of_le h
  rw [Nat.pow_add, ← Nat.div_div_eq_div_mul, ← Nat.div_div_eq_div_mul, Nat.mul_div_cancel _ (Nat.two_pow_pos k)]

/-- Numbers with the quotient of a multiple of `n` are the `n` numbers from that multiple on. -/
theorem div_eq_div_iff_of_mod_eq_zero {a b n : Nat} (hn : 0 < n) (hb : b % n = 0) : a / n = b / n ↔ b ≤ a ∧ a < b + n := by
  obtain ⟨q, rfl⟩ := Nat.dvd_of_mod_eq_zero hb
  rw [Nat.mul_div_cancel_left q hn, Nat.div_eq_iff hn, Nat.mul_comm q n]
  omega

/-- Settles O60: two addresses agree above the size if and only if both lie in one block of that size, and the base starts one. -/
theorem regionRange : Obligations.RegionRange := by
  unfold Obligations.RegionRange
  intro p a hp base size
  obtain ⟨hsize, hbase⟩ := pacrWellFormed_iff.mp hp
  rw [pacrCovers_iff, ← div_pow_clear_low p.toNat (by omega : 10 ≤ pacrSize p + 1),
    div_eq_div_iff_of_mod_eq_zero (Nat.two_pow_pos _) hbase, pacrSize_eq]

/-! ### The deciding region -/

/-- The regions are looked at from the highest index down (20_memory R113). -/
theorem regionsDown_pairwise : regionsDown.Pairwise (· > ·) := by decide

theorem mem_regionsDown (i : Fin 8) : i ∈ regionsDown := by revert i; decide

/-- The element a decreasing list finds is the greatest that passes. -/
theorem find?_eq_some_of_greatest {l : List (Fin 8)} (hl : l.Pairwise (· > ·)) {p : Fin 8 → Bool} {i : Fin 8}
    (hi : i ∈ l) (hp : p i = true) (hmax : ∀ j, i < j → p j = false) : l.find? p = some i := by
  obtain ⟨before, after, rfl⟩ := List.append_of_mem hi
  refine List.find?_eq_some_iff_append.mpr ⟨hp, before, after, rfl, fun j hj => ?_⟩
  obtain ⟨-, -, beforeGreater⟩ := List.pairwise_append.mp hl
  have : i < j := beforeGreater j hj i List.mem_cons_self
  simp [hmax j this]

theorem decidingRegion_of_highest {s : State} {a : Word} {i : Fin 8}
    (hi : regionEnabled s i = true ∧ pacrCovers s.pacr[i] a = true)
    (hmax : ∀ j, i < j → ¬ (regionEnabled s j = true ∧ pacrCovers s.pacr[j] a = true)) : decidingRegion s a = some i :=
  find?_eq_some_of_greatest regionsDown_pairwise (mem_regionsDown i) (Bool.and_eq_true_iff.mpr hi) fun j hj =>
    Bool.eq_false_iff.mpr fun h => hmax j hj (Bool.and_eq_true_iff.mp h)

theorem decidingRegion_of_none {s : State} {a : Word}
    (h : ∀ i, ¬ (regionEnabled s i = true ∧ pacrCovers s.pacr[i] a = true)) : decidingRegion s a = none :=
  List.find?_eq_none.mpr fun i _ hi => h i (Bool.and_eq_true_iff.mp hi)

/-! ### What a region permits -/

theorem caprAp_toNat (capr : Word) (i : Fin 8) : (caprAp capr i).toNat = capr.toNat / 2 ^ (8 + 2 * i.val) % 4 := by
  simp only [caprAp, BitVec.extractLsb'_toNat, Nat.shiftRight_eq_div_pow]

theorem apReads_iff {ap : BitVec 2} {supervisor : Bool} :
    apReads ap supervisor = true ↔ if supervisor then ap.toNat ≠ 0 else 2 ≤ ap.toNat := by
  revert ap supervisor; decide

theorem apWrites_iff {ap : BitVec 2} {supervisor : Bool} :
    apWrites ap supervisor = true ↔ if supervisor then ap.toNat ≠ 0 else ap.toNat = 3 := by
  revert ap supervisor; decide

theorem regionPermits_iff {capr : Word} {i : Fin 8} {kind : AccessKind} {supervisor : Bool} :
    regionPermits capr i kind supervisor = true ↔
      kind = .write ∧ apWrites (caprAp capr i) supervisor = true ∨
        kind = .read ∧ apReads (caprAp capr i) supervisor = true ∨
        kind = .fetch ∧ apReads (caprAp capr i) supervisor = true ∧ capr.getLsbD i.val = false := by
  cases kind <;> simp [regionPermits, caprX, and_comm]

/-! ### The check of an address -/

/-- A core without regions checks nothing (92 D6). -/
theorem mpuCheck_of_noRegions {s : State} (h : s.cfg.mpuRegions = 0) (kind : AccessKind) (supervisor : Bool) (a : Word) :
    mpuCheck s kind supervisor a = .permit := if_pos (congrArg Fin.val h)

/-- With CCR.MP = 01 and well-formed regions the deciding region decides (20_memory R113). -/
theorem mpuCheck_of_enabled {s : State} (hr : s.cfg.mpuRegions ≠ 0) (hmp : s.mp = 1)
    (hwf : ∀ i : Fin 8, regionMalformed s i = false) (kind : AccessKind) (supervisor : Bool) (a : Word) :
    mpuCheck s kind supervisor a =
      (decidingRegion s a).elim .deny fun i => if regionPermits s.capr i kind supervisor then .permit else .deny := by
  have any : regionsDown.any (regionMalformed s) = false := List.any_eq_false.mpr fun i _ => by simp [hwf i]
  have val : s.cfg.mpuRegions.val ≠ 0 := fun h => hr (Fin.ext h)
  cases h : decidingRegion s a <;> simp [mpuCheck, hmp, val, any, h]

/-- Settles O59: the check of an address is the permission of the deciding region, which is the highest that covers it. -/
theorem protectionRule : Obligations.ProtectionRule := by
  unfold Obligations.ProtectionRule
  intro s kind supervisor a
  constructor
  · rintro (h | h)
    · exact mpuCheck_of_noRegions h kind supervisor a
    · exact mpuCheck_of_disabled h kind supervisor a
  intro hr hmp hwf covers
  constructor
  · intro hnone
    rw [mpuCheck_of_enabled hr hmp hwf, decidingRegion_of_none hnone, Option.elim_none]
  · intro i hi hmax ap mayRead mayWrite
    rw [mpuCheck_of_enabled hr hmp hwf, decidingRegion_of_highest hi hmax, Option.elim_some]
    simp only [regionPermits_iff, apReads_iff, apWrites_iff, caprAp_toNat]
    rfl

end Sys2Proof.Machine
end

section
/-! SUPPORT. Exception entry where the vector can be read, and the accesses that raise an exception: which they are
(20_memory R90 to R96), and that the instruction making one takes the exception and does nothing else. -/

namespace Sys2Proof.Machine

/-! ### Exception entry -/

/-- What entry changes does not matter to the check of the vector's address. -/
theorem takeVector_of_readable {s : State} {v : Byte} (h : VectorReadable s v) (saved : Word) :
    takeVector v saved s = .next (afterEntry s v saved) := by
  have permits : Permits (s.enterVector v saved) .fetch true
      (byteAddresses ((s.enterVector v saved).vectorAddress v) 4)
      (byteAddresses ((s.enterVector v saved).vectorAddress v) 4) := h
  simp only [takeVector, readVectorWord_of_permits permits]
  rfl

theorem traps_takeException (e : Exc) (s : State) : Traps s e.vector (takeException e s) :=
  fun h => takeVector_of_readable h s.pc

/-! ### Alignment -/

theorem aligned_iff {a : Word} {w : Width} : aligned a w = true ↔ a.toNat % w.bytes = 0 := by
  simp only [aligned, beq_iff_eq]

theorem alignDown_eq (a : Word) (w : Width) : alignDown a w = BitVec.ofNat 32 (a.toNat / w.bytes * w.bytes) := by
  apply BitVec.eq_of_toNat_eq
  have down : a.toNat / w.bytes * w.bytes < 2 ^ 32 := (Nat.div_mul_le_self _ _).trans_lt a.isLt
  rw [BitVec.toNat_ofNat, Nat.mod_eq_of_lt down]
  cases w with
  | byte => simp only [alignDown, Width.bytes, Nat.div_one, Nat.mul_one]
  | half => exact toNat_and_allOnes_shiftLeft a 1
  | word => exact toNat_and_allOnes_shiftLeft a 2

theorem effectiveAddress_of_aligned {a : Word} {w : Width} (h : a.toNat % w.bytes = 0) (s : State) (multi : Bool) :
    effectiveAddress s multi a w = some a := if_pos (aligned_iff.mpr h)

theorem effectiveAddress_of_misaligned {a : Word} {w : Width} (h : a.toNat % w.bytes ≠ 0) (s : State) (multi : Bool) :
    effectiveAddress s multi a w =
      if multi || !s.psr.mm then none else if s.cfg.hwUnaligned then some a else some (alignDown a w) :=
  if_neg (mt aligned_iff.mp h)

/-- Settles O29: the three cases of the effective address, with the masks of the low bits as numbers. -/
theorem alignmentRule : Obligations.AlignmentRule := by
  unfold Obligations.AlignmentRule
  intro s a w
  refine ⟨fun h multi => effectiveAddress_of_aligned h s multi, fun h => ⟨?_, ?_⟩⟩
  · rw [effectiveAddress_of_misaligned h, Bool.true_or, if_pos rfl]
  · simp only [effectiveAddress_of_misaligned h, alignDown_eq, Bool.false_or, Bool.not_eq_true']

/-! ### Denied accesses -/

/-- The first address that is not permitted decides (20_memory R114). -/
theorem mpuCheckAll_of_deny {s : State} {kind : AccessKind} {supervisor : Bool} {before : List Word} {a : Word}
    (hb : ∀ b ∈ before, mpuCheck s kind supervisor b = .permit) (ha : mpuCheck s kind supervisor a = .deny)
    (after : List Word) : mpuCheckAll s kind supervisor (before ++ a :: after) = .deny := by
  induction before with
  | nil => simp only [List.nil_append, mpuCheckAll, ha]
  | cons b rest ih =>
    rw [List.forall_mem_cons] at hb
    simp only [List.cons_append, mpuCheckAll, hb.1, ih hb.2]

/-- The MPU denies, or it permits and the bus answers with an error (20_memory R95). -/
theorem checkAccess_of_denies {s : State} {kind : AccessKind} {supervisor : Bool} {bytes bus : List Word}
    (h : Denies s kind supervisor bytes bus) : checkAccess s kind supervisor bytes bus = .exc .accessError := by
  rcases h with ⟨before, a, after, rfl, hb, ha⟩ | ⟨hp, a, ha, he⟩
  · simp only [checkAccess, mpuCheckAll_of_deny hb ha]
  · have error : bus.any (busError s kind) = true := List.any_eq_true.mpr ⟨a, ha, he⟩
    simp only [checkAccess, mpuCheckAll_of_permit hp, error, if_true]

theorem readData_of_noAddress {s : State} {multi : Bool} {a : Word} {w : Width} (h : effectiveAddress s multi a w = none) :
    readData multi s a w = .exc .misaligned := by simp only [readData, h]

theorem writeData_of_noAddress {s : State} {multi : Bool} {a : Word} {w : Width} (h : effectiveAddress s multi a w = none)
    (v : Word) : writeData multi s a w v = .exc .misaligned := by simp only [writeData, h]

theorem readData_of_denies {s : State} {multi : Bool} {a b : Word} {w : Width} (hb : effectiveAddress s multi a w = some b)
    (h : Denies s .read s.psr.s (byteAddresses b w.bytes) (busReadAddresses b w)) :
    readData multi s a w = .exc .accessError := by simp only [readData, hb, checkAccess_of_denies h]

theorem writeData_of_denies {s : State} {multi : Bool} {a b : Word} {w : Width} (hb : effectiveAddress s multi a w = some b)
    (h : Denies s .write s.psr.s (byteAddresses b w.bytes) (byteAddresses b w.bytes)) (v : Word) :
    writeData multi s a w v = .exc .accessError := by simp only [writeData, hb, checkAccess_of_denies h]

/-! ### Instructions of one access -/

/-- An outcome is that of a data access at `a`, with something done after it: what the access raises, it takes. -/
inductive Accesses (s : State) (a : Word) (w : Width) : AccessKind → Outcome → Prop
  | read (k : Word → Outcome) : Accesses s a w .read ((readData false s a w).andThen s k)
  | write (v : Word) (k : State → Outcome) : Accesses s a w .write ((writeData false s a w v).andThen s k)

/-- A misaligned access that PSR.MM does not excuse is the misaligned access exception (20_memory R90). -/
theorem Accesses.misaligned {s : State} {a : Word} {w : Width} {kind : AccessKind} {o : Outcome}
    (h : Accesses s a w kind o) (ha : effectiveAddress s false a w = none) : o = takeException .misaligned s := by
  cases h with
  | read k => rw [readData_of_noAddress ha]; rfl
  | write v k => rw [writeData_of_noAddress ha]; rfl

/-- A denied or failing access is the access error exception (20_memory R95, R96). -/
theorem Accesses.accessError {s : State} {a b : Word} {w : Width} {kind : AccessKind} {o : Outcome}
    (h : Accesses s a w kind o) (hb : effectiveAddress s false a w = some b)
    (hd : Denies s kind s.psr.s (byteAddresses b w.bytes)
      (if kind = .read then busReadAddresses b w else byteAddresses b w.bytes)) : o = takeException .accessError s := by
  cases h with
  | read k => rw [readData_of_denies hb hd]; rfl
  | write v k => rw [writeData_of_denies hb hd]; rfl

section Shapes

variable {s : State}

theorem accesses_load16 (w : Width) (rz : BitVec 3) (a : Word) : Accesses s a w .read (load16 w rz a s) := .read _

theorem accesses_store16 (w : Width) (rz : BitVec 3) (a : Word) : Accesses s a w .write (store16 w rz a s) := .write _ _

theorem accesses_withReg {n : BitVec 5} {k : Slot → Outcome} {a : Word} {w : Width} {kind : AccessKind}
    (hn : (s.slotOf n).isSome) (h : ∀ r, Accesses s a w kind (k r)) : Accesses s a w kind (withReg s n k) := by
  obtain ⟨r, hr⟩ := Option.isSome_iff_exists.mp hn
  rw [withReg_of_slot hr]
  exact h r

/-- The load names its base and its destination, and both exist. -/
theorem accesses_load32 {w u : Width} {f : Word → Word} {rz rx : BitVec 5} {o : BitVec 12} {kind : AccessKind} {a : Word}
    (h : ((s.slotOf rx).map fun x => (AccessKind.read, s.reg x + scaled o w.shift, w)) = some (kind, a, u))
    (hf : ∀ n ∈ [rz, rx], (s.slotOf n).isSome) : Accesses s a u kind (load32 w f rz rx o s) := by
  obtain ⟨x, hx, heq⟩ := Option.map_eq_some_iff.mp h
  cases heq
  rw [load32, withReg_of_slot hx]
  exact accesses_withReg (hf rz List.mem_cons_self) fun z => .read _

theorem accesses_store32 {w u : Width} {rz rx : BitVec 5} {o : BitVec 12} {kind : AccessKind} {a : Word}
    (h : ((s.slotOf rx).map fun x => (AccessKind.write, s.reg x + scaled o w.shift, w)) = some (kind, a, u))
    (hf : ∀ n ∈ [rz, rx], (s.slotOf n).isSome) : Accesses s a u kind (store32 w rz rx o s) := by
  obtain ⟨x, hx, heq⟩ := Option.map_eq_some_iff.mp h
  cases heq
  rw [store32, withReg_of_slot hx]
  exact accesses_withReg (hf rz List.mem_cons_self) fun z => .write _ _

/-- BPUSH within the limit of the translation stack (46_loadstore R470). -/
theorem accesses_bpush {w u : Width} {rz : BitVec 3} {kind : AccessKind} {a : Word}
    (h : (if s.cfg.hasBctm ∧ (s.reg slotBsp).toNat + w.bytes ≤ (s.reg slotTop).toNat then
      some (AccessKind.write, s.reg slotBsp, w) else none) = some (kind, a, u)) :
    Accesses s a u kind (bpush w rz s) := by
  obtain ⟨⟨hc, hlim⟩, heq⟩ := Option.ite_none_right_eq_some.mp h
  cases heq
  rw [bpush, bctmOnly, if_pos hc, if_neg (Nat.not_lt.mpr hlim)]
  exact .write _ _

/-- BPOP within the limit of the translation stack (46_loadstore R470). -/
theorem accesses_bpop {w u : Width} {rz : BitVec 3} {kind : AccessKind} {a : Word}
    (h : (if s.cfg.hasBctm ∧ (s.reg slotFp).toNat + w.bytes ≤ (s.reg slotBsp).toNat then
      some (AccessKind.read, s.reg slotBsp - BitVec.ofNat 32 w.bytes, w) else none) = some (kind, a, u)) :
    Accesses s a u kind (bpop w rz s) := by
  obtain ⟨⟨hc, hlim⟩, heq⟩ := Option.ite_none_right_eq_some.mp h
  cases heq
  rw [bpop, bctmOnly, if_pos hc, if_neg (Nat.not_lt.mpr hlim)]
  exact .read _

end Shapes

/-- A load or store of one register makes the access `singleAccess` says, and nothing before it. -/
theorem exec_accesses {i : Instr} {s : State} {kind : AccessKind} {a : Word} {w : Width}
    (h : singleAccess s i = some (kind, a, w)) (hf : ∀ f ∈ registerFields i, (s.slotOf f).isSome) :
    Accesses s a w kind (exec i s) := by
  cases i
  case ld32b | ld32h | ld32w | ld32bs | ld32hs => exact accesses_load32 h hf
  case st32b | st32h | st32w => exact accesses_store32 h hf
  case ld16b | ld16h | ld16w | ld16wsp | lrw16 => cases h; exact accesses_load16 _ _ _
  case st16b | st16h | st16w | st16wsp => cases h; exact accesses_store16 _ _ _
  case lrw32 rz offset => cases h; exact accesses_withReg (hf rz List.mem_cons_self) fun z => .read _
  case bpush16h | bpush16w => exact accesses_bpush h
  case bpop16h | bpop16w => exact accesses_bpop h
  all_goals cases h

/-- Settles O30: the instruction is its access, which answers the access error. -/
theorem accessErrorTraps : Obligations.AccessErrorTraps := by
  unfold Obligations.AccessErrorTraps
  intro i s kind a b w ha hf hb hd
  rw [(exec_accesses ha hf).accessError hb hd]
  exact traps_takeException .accessError s

/-! ### Instructions of several accesses -/

theorem withAlignedBase_of_misaligned {a : Word} (h : a.toNat % 4 ≠ 0) (s : State) (k : Outcome) :
    withAlignedBase a false s k = takeException .misaligned s := by
  refine if_neg ?_
  rw [Bool.false_or]
  exact mt aligned_iff.mp h

theorem pushList_of_misaligned {s : State} (h : (s.reg s.spSlot).toNat % 4 ≠ 0) {l : List Slot} (hl : l ≠ []) :
    pushList l s = takeException .misaligned s := by
  rw [pushList, List.isEmpty_eq_false_iff.mpr hl]
  exact withAlignedBase_of_misaligned h s _

theorem popList_of_misaligned {s : State} (h : (s.reg s.spSlot).toNat % 4 ≠ 0) {l : List Slot} (hl : l ≠ [])
    (k : State → Outcome) : popList l s k = takeException .misaligned s := by
  rw [popList, List.isEmpty_eq_false_iff.mpr hl]
  exact withAlignedBase_of_misaligned h s _

/-- A list that does not run past R15 (46_loadstore R446). -/
theorem ldmList_of_le {supervisor : Bool} {ry imm5 : BitVec 5} (h : ry.toNat + imm5.toNat ≤ 15) :
    ldmList supervisor ry imm5 =
      some ((List.range (imm5.toNat + 1)).map fun k => slot4 supervisor (BitVec.ofNat 4 (ry.toNat + k))) := if_pos h

theorem execLdm32_of_misaligned {s : State} {ry rx imm5 : BitVec 5} {x : Slot} (hx : s.slotOf rx = some x)
    (hl : ry.toNat + imm5.toNat ≤ 15) (h : (s.reg x).toNat % 4 ≠ 0) :
    execLdm32 ry rx imm5 s = takeException .misaligned s := by
  simp only [execLdm32, withReg_of_slot hx, ldmList_of_le hl, withAlignedBase_of_misaligned h]

theorem execStm32_of_misaligned {s : State} {ry rx imm5 : BitVec 5} {x : Slot} (hx : s.slotOf rx = some x)
    (hl : ry.toNat + imm5.toNat ≤ 15) (h : (s.reg x).toNat % 4 ≠ 0) :
    execStm32 ry rx imm5 s = takeException .misaligned s := by
  simp only [execStm32, withReg_of_slot hx, ldmList_of_le hl, withAlignedBase_of_misaligned h]

/-- An instruction of several accesses checks its base before any of them, whatever PSR.MM is (20_memory R92). -/
theorem exec_of_misalignedBase {i : Instr} {s : State} {a : Word} (h : multiBase s i = some a)
    (hl : ∀ ry rx imm5 : BitVec 5, i = .ldm32 ry rx imm5 ∨ i = .stm32 ry rx imm5 → ry.toNat + imm5.toNat ≤ 15)
    (hmis : a.toNat % 4 ≠ 0) : exec i s = takeException .misaligned s := by
  cases i
  case ldm32 ry rx imm5 =>
    obtain ⟨x, hx, rfl⟩ := Option.map_eq_some_iff.mp h
    exact execLdm32_of_misaligned hx (hl ry rx imm5 (.inl rfl)) hmis
  case stm32 ry rx imm5 =>
    obtain ⟨x, hx, rfl⟩ := Option.map_eq_some_iff.mp h
    exact execStm32_of_misaligned hx (hl ry rx imm5 (.inr rfl)) hmis
  case push16 =>
    obtain ⟨hne, ha⟩ := Option.ite_none_left_eq_some.mp h
    cases ha
    exact pushList_of_misaligned hmis hne
  case pop16 =>
    obtain ⟨hne, ha⟩ := Option.ite_none_left_eq_some.mp h
    cases ha
    exact popList_of_misaligned hmis hne fun t => finishAt (t.reg slotLr) t
  case ipush16 => cases h; exact pushList_of_misaligned hmis (by decide)
  case ipop16 => cases h; exact popList_of_misaligned hmis (by decide) _
  case nie16 | nir16 =>
    obtain ⟨hs, ha⟩ := Option.ite_none_right_eq_some.mp h
    cases ha
    exact (privileged_of_supervisor hs _).trans (withAlignedBase_of_misaligned hmis s _)
  all_goals cases h

/-- Settles O28: what is misaligned has no effective address, or fails the check of the base. -/
theorem misalignedTraps : Obligations.MisalignedTraps := by
  unfold Obligations.MisalignedTraps
  constructor
  · intro i s kind a w ha hf hmis hmm
    have noAddress : effectiveAddress s false a w = none := by
      simp only [effectiveAddress_of_misaligned hmis, hmm, Bool.not_false, Bool.or_true, if_true]
    rw [(exec_accesses ha hf).misaligned noAddress]
    exact traps_takeException .misaligned s
  · intro i s a ha hl hmis
    rw [exec_of_misalignedBase ha hl hmis]
    exact traps_takeException .misaligned s

end Sys2Proof.Machine
end

section
/-! Decoding what was encoded (30_encoding R131 to R149): the encoding of each instruction, read field by field, leads the
decoder to the row of its table that gives the instruction back. -/

namespace Sys2Proof

/-! ### The decoder and the code of an instruction -/

/-- What the two maps of the decoder make of an encoding. -/
def Code.decoded : Code → Option Instr
  | .short h => decode16 h
  | .long w => decode32 w

/-- The halfwords of an encoding in fetch order (R132). -/
def Code.halves : Code → List Half
  | .short h => [h]
  | .long w => [w.extractLsb' 16 16, w.extractLsb' 0 16]

theorem encode_eq_halves (i : Instr) : encode i = i.code.halves := by
  unfold encode Code.halves
  cases i.code <;> rfl

/-- A field of a field is a field. -/
theorem extractLsb'_extractLsb' {n s l s' l' : Nat} (x : BitVec n) (h : s' + l' ≤ l) :
    (x.extractLsb' s l).extractLsb' s' l' = x.extractLsb' (s + s') l' := by
  ext i hi
  simp only [BitVec.getElem_extractLsb', BitVec.getLsbD_extractLsb', show s' + i < l by omega, decide_true, Bool.true_and,
    Nat.add_assoc]

theorem isLong_high_eq (w : Word) : isLong (w.extractLsb' 16 16) = ((op6 w).extractLsb' 4 2 == 0b11#2) := by
  rw [isLong, op6, extractLsb'_extractLsb' w (by decide), extractLsb'_extractLsb' w (by decide)]

theorem isLong_eq (h : Half) : isLong h = ((h11 h).extractLsb' 3 2 == 0b11#2) := by
  rw [isLong, h11, extractLsb'_extractLsb' h (by decide)]

/-- Every major opcode of a 32-bit instruction carries the mark `11` (R131, R133). -/
theorem isLong_of_decode32 {w : Word} {i : Instr} (h : decode32 w = some i) : isLong (w.extractLsb' 16 16) = true := by
  rw [isLong_high_eq]
  unfold decode32 at h
  split at h
  case h_11 => cases h
  all_goals rw [‹op6 w = _›]; rfl

/-- No row of the 16-bit map carries the mark `11` (R131, R144). -/
theorem isLong_of_decode16 {h : Half} {i : Instr} (hd : decode16 h = some i) : isLong h = false := by
  rw [isLong_eq]
  unfold decode16 at hd
  split at hd
  case h_28 => cases hd
  all_goals rw [‹h11 h = _›]; rfl

/-- The length mark sends each encoding to its own map. -/
theorem decode_halves {c : Code} {i : Instr} (h : c.decoded = some i) (rest : List Half) :
    decode (c.halves ++ rest) = .instr i rest := by
  cases c with
  | short x =>
    have hd : decode16 x = some i := h
    simp only [Code.halves, List.cons_append, List.nil_append, decode, isLong_of_decode16 hd, hd, Bool.false_eq_true, if_false]
  | long w =>
    have hd : decode32 w = some i := h
    simp only [Code.halves, List.cons_append, List.nil_append, decode, isLong_of_decode32 hd, join_word, hd, if_true]

/-! ### The literal load (R143) -/

theorem offset_append_imm2 (b : BitVec 1) (x : BitVec 2) (y : BitVec 5) : (b ++ (x ++ y)).extractLsb' 5 2 = x := by
  rw [BitVec.extractLsb'_append_eq_of_add_le (xlo := x ++ y) (by decide), BitVec.extractLsb'_append_eq_left]

theorem offset_append_imm5 (b : BitVec 1) (x : BitVec 2) (y : BitVec 5) : (b ++ (x ++ y)).extractLsb' 0 5 = y := by
  rw [BitVec.extractLsb'_append_eq_of_add_le (xlo := x ++ y) (by decide), BitVec.extractLsb'_append_eq_right]

theorem offset_append_sign (b : BitVec 1) (v : BitVec 7) : (b ++ v).getLsbD 7 = b.getLsbD 0 := by
  rw [BitVec.getLsbD_append]; rfl

theorem lrw16Code_zero_append (rz : BitVec 3) (x : BitVec 2) (y : BitVec 5) :
    lrw16Code rz (0#1 ++ (x ++ y)) = s16 0b00010#5 0#1 x rz y := by
  rw [lrw16Code, offset_append_sign, offset_append_imm2, offset_append_imm5]; rfl

/-- The sign bit of an offset is drawn by the major opcode, and a negative offset is complemented. -/
theorem lrw16Code_one_append (rz : BitVec 3) (x : BitVec 2) (y : BitVec 5) :
    lrw16Code rz (1#1 ++ (x ++ y)) = s16 0b00000#5 0#1 (~~~x) rz (~~~y) := by
  rw [lrw16Code, offset_append_sign, offset_append_imm2, offset_append_imm5]; rfl

theorem lrw16Ok_zero_append (rz : BitVec 3) (v : BitVec 7) : lrw16Ok rz (0#1 ++ v) = true := by
  have := v.isLt
  simp only [lrw16Ok, Bool.not_eq_true', Bool.and_eq_false_iff, beq_eq_false_iff_ne, ne_eq, ← BitVec.toNat_inj, toNat_concat,
    BitVec.ofNat_eq_ofNat, BitVec.toNat_ofNat]
  omega

theorem s16_eq_zero_iff (x : BitVec 2) (rz : BitVec 3) (y : BitVec 5) :
    s16 0b00000#5 0#1 x rz y = 0 ↔ x = 0 ∧ rz = 0 ∧ y = 0 := by
  have := x.isLt; have := rz.isLt; have := y.isLt
  simp only [← BitVec.toNat_inj, s16, toNat_concat, BitVec.toNat_ofNat, BitVec.ofNat_eq_ofNat]
  omega

/-- A load with a negative offset exists unless its encoding would be the halfword of zeros, which is BKPT. -/
theorem lrw16Ok_one_append (rz : BitVec 3) (x : BitVec 2) (y : BitVec 5) :
    lrw16Ok rz (1#1 ++ (x ++ y)) = true ↔ s16 0b00000#5 0#1 (~~~x) rz (~~~y) ≠ 0 := by
  have := x.isLt; have := rz.isLt; have := y.isLt
  rw [ne_eq, s16_eq_zero_iff, lrw16Ok]
  simp only [Bool.not_eq_true', Bool.and_eq_false_iff, beq_eq_false_iff_ne, ne_eq, ← BitVec.toNat_inj, toNat_concat,
    BitVec.toNat_not, BitVec.ofNat_eq_ofNat, BitVec.toNat_ofNat]
  omega

/-- A word offset is its sign bit, IMM2 and IMM5. -/
theorem exists_offset_append (v : BitVec 8) :
    ∃ (x : BitVec 2) (y : BitVec 5), v = 0#1 ++ (x ++ y) ∨ v = 1#1 ++ (x ++ y) := by
  refine ⟨v.extractLsb' 5 2, v.extractLsb' 0 5, ?_⟩
  have := v.isLt
  simp only [← BitVec.toNat_inj, toNat_concat, BitVec.extractLsb'_toNat, BitVec.toNat_ofNat, Nat.shiftRight_eq_div_pow]
  omega

theorem decode16_lrw16Code {rz : BitVec 3} {offset : BitVec 8} (h : lrw16Ok rz offset = true) :
    decode16 (lrw16Code rz offset) = some (.lrw16 rz offset) := by
  obtain ⟨x, y, rfl | rfl⟩ := exists_offset_append offset
  · rw [lrw16Code_zero_append, decode16, s16_h11, s16_h10, s16_h5, s16_h98, s16_h4]; rfl
  · have nonzero := (lrw16Ok_one_append rz x y).mp h
    rw [lrw16Code_one_append, decode16, s16_h11, s16_h10, s16_h5, s16_h98, s16_h4, if_neg nonzero]
    show some (Instr.lrw16 rz (1#1 ++ ~~~(~~~x ++ ~~~y))) = _
    rw [BitVec.not_append, BitVec.not_not, BitVec.not_not]

/-! ### Each instruction -/

/-- The encoding of a well-formed instruction decodes to it. The cases are the tables of the decoder; in each the fields of the
layout select the row. -/
theorem decoded_code {i : Instr} (h : i.WellFormed = true) : i.code.decoded = some i := by
  cases i
  case addu32 | addc32 | subu32 | subc32 | mvc32 | ixh32 | ixw32 | incf32 | inct32 | decf32 | dect32 | and32 | andn32 | or32
      | xor32 | nor32 | bclri32 | bseti32 | btsti32 | lsl32 | lsr32 | asr32 | rotl32 | lsli32 | lsri32 | asri32 | rotli32
      | lslc32 | lsrc32 | asrc32 | xsr32 | bmaski32 | xtrb0 | xtrb1 | xtrb2 | xtrb3 | ff0 | ff1 | mult32 =>
    show decode32 (r32 _ _ _ _ _ _) = _
    rw [decode32, decodeAlu32, r32_op6, r32_sop6, r32_pcode, r32_f25, r32_f20, r32_f4]; rfl
  case sync32 | bmset32 | bmclr32 | rte32 | stop32 | wait32 | doze32 | bkpt16 | nie16 | nir16 | ipush16 | ipop16 => rfl
  case mfcr32 | mtcr32 =>
    show decode32 (r32 _ _ _ _ _ _) = _
    rw [decode32, decodeSystem32, r32_op6, r32_sop6, r32_pcode, r32_f25, r32_f20, r32_f4]; rfl
  case psrclr32 | psrset32 =>
    show decode32 (r32 _ _ _ _ _ _) = _
    rw [decode32, decodeSystem32, r32_op6, r32_sop6, r32_pcode, r32_f25, r32_f20, r32_f4]
    exact if_pos h
  case trap32 n => clear h; revert n; decide
  case ldm32 =>
    show decode32 (r32 _ _ _ _ _ _) = _
    rw [decode32, decodeLdm, r32_op6, r32_sop6, r32_pcode, r32_f25, r32_f20, r32_f4]; rfl
  case stm32 =>
    show decode32 (r32 _ _ _ _ _ _) = _
    rw [decode32, decodeStm, r32_op6, r32_sop6, r32_pcode, r32_f25, r32_f20, r32_f4]; rfl
  case ld32b | ld32h | ld32w | ld32bs | ld32hs =>
    show decode32 (i12 _ _ _ _ _) = _
    rw [decode32, decodeLoad32, i12_op6, i12_sop4, i12_f25, i12_f20, i12_imm12]; rfl
  case st32b | st32h | st32w =>
    show decode32 (i12 _ _ _ _ _) = _
    rw [decode32, decodeStore32, i12_op6, i12_sop4, i12_f25, i12_f20, i12_imm12]; rfl
  case addi32 | subi32 | andi32 | andni32 | xori32 =>
    show decode32 (i12 _ _ _ _ _) = _
    rw [decode32, decodeImm12, i12_op6, i12_sop4, i12_f25, i12_f20, i12_imm12]; rfl
  case br32 | bf32 | bt32 | movi32 | movih32 | lrw32 | cmphsi32 | cmplti32 | cmpnei32 =>
    show decode32 (i16 _ _ _ _) = _
    rw [decode32, decodeImm16, i16_op6, i16_f25, i16_f20, i16_imm16]; rfl
  case ori32 =>
    show decode32 (i16 _ _ _ _) = _
    rw [decode32, i16_op6, i16_f25, i16_f20, i16_imm16]; rfl
  case bsr32 =>
    show decode32 (j26 _ _) = _
    rw [decode32, j26_op6, j26_off26]; rfl
  case lrw16 => exact decode16_lrw16Code h
  case br16 | bt16 | bf16 =>
    show decode16 (j10 _ _ _) = _
    rw [decode16, j10_h11, j10_h10, j10_h9]; rfl
  case addi16sp | subi16sp =>
    show decode16 (s16 _ _ _ _ _) = _
    rw [decode16, decodeStack16, s16_h11, s16_h10, s16_h5, s16_h98, s16_h4, join_imm7]; rfl
  case pop16 | push16 =>
    show decode16 (s16 _ _ _ _ _) = _
    rw [decode16, decodeStack16, s16_h11, s16_h10, s16_h5, s16_h98, s16_hR15, s16_hList1, concat_r15, concat_list1]
    exact if_pos h
  case bpop16h | bpop16w | bpush16h | bpush16w =>
    show decode16 (s16 _ _ _ _ _) = _
    rw [decode16, decodeStack16, s16_h11, s16_h10, s16_h5, s16_h98, s16_h42, s16_h1, concat_rz, concat_sop]; rfl
  case addi16rsp | addi16i8 | subi16i8 | movi16 =>
    show decode16 (i8 _ _ _) = _
    rw [decode16, i8_h11, i8_h8, i8_h7]; rfl
  case cmphsi16 | cmplti16 | cmpnei16 | bclri16 | bseti16 | btsti16 =>
    show decode16 (i5 _ _ _ _) = _
    rw [decode16, decodeCompareImm16, i5_h11, i5_h8, i5_h5, i5_h4]; rfl
  case jmpix16 =>
    show decode16 (i5 _ _ _ _) = _
    rw [decode16, decodeCompareImm16, i5_h11, i5_h8, i5_h5, i5_h42, i5_h1, concat_rz, concat_sop]; rfl
  case lsli16 | lsri16 | asri16 | ld16b | ld16h | ld16w | st16b | st16h | st16w =>
    show decode16 (i5 _ _ _ _) = _
    rw [decode16, i5_h11, i5_h8, i5_h5, i5_h4]; rfl
  case ld16wsp | st16wsp =>
    show decode16 (i5 _ _ _ _) = _
    rw [decode16, i5_h11, i5_h8, i5_h5, i5_h4, join_imm8]; rfl
  case addu16r3 | subu16r3 | addi16i3 | subi16i3 =>
    show decode16 (t16 _ _ _ _ _) = _
    rw [decode16, decodeThree16, t16_h11, t16_h8, t16_h5, t16_h42, t16_h1]; rfl
  case addu16 | addc16 | subu16 | subc16 | cmphs16 | cmplt16 | cmpne16 | mvcv16 | and16 | andn16 | tst16 | tstnbz16 | or16
      | xor16 | nor16 | mov16 | lsl16 | lsr16 | asr16 | rotl16 | zextb16 | zexth16 | sextb16 | sexth16 | jmp16 | jsr16
      | revb16 | revh16 | mult16 =>
    show decode16 (d16 _ _ _ _ _) = _
    rw [decode16, decodeTwo16, d16_h11, d16_h10, d16_h6, d16_h52, d16_h1]; rfl

/-- Settles O1: the map of the instruction's length decodes the encoding, and the length mark leads to that map. -/
theorem decodeEncode : Obligations.DecodeEncode := by
  unfold Obligations.DecodeEncode
  intro i rest h
  rw [encode_eq_halves]
  exact decode_halves (decoded_code h) rest

/-- Settles O3: each word is the encoding of its instruction. -/
theorem decodedWords : Obligations.DecodedWords := by
  unfold Obligations.DecodedWords
  exact ⟨decodeEncode (.addu32 1 2 4) [] rfl, decodeEncode (.and16 1 2) [] rfl, decodeEncode (.lsli16 1 2 1) [] rfl,
    decodeEncode (.cmpnei16 2 5) [] rfl, decodeEncode (.movi32 1 0x1234) [] rfl, decodeEncode (.br16 2) [] rfl,
    decodeEncode (.ld16b 3 2 1) [] rfl, decodeEncode .rte32 [] rfl, decodeEncode .bkpt16 [] rfl⟩

end Sys2Proof
end

section
/-! Encoding what was decoded (30_encoding R155, R156): each row of the decoder's tables answers an instruction whose encoding is
the word or halfword that was read. -/

namespace Sys2Proof

/-! ### A layout is its fields -/

theorem long_r32 {w : Word} {op sop : BitVec 6} {a b pc z : BitVec 5} (hop : op6 w = op) (ha : f25 w = a) (hb : f20 w = b)
    (hsop : sop6 w = sop) (hpc : pcode w = pc) (hz : f4 w = z) : Code.long (r32 op a b sop pc z) = .long w := by
  subst hop ha hb hsop hpc hz
  simp only [r32, op6, f25, f20, sop6, pcode, f4, BitVec.extractLsb'_append_extractLsb'_eq_extractLsb',
    BitVec.extractLsb'_eq_self]

theorem long_i12 {w : Word} {op : BitVec 6} {a b : BitVec 5} {sop : BitVec 4} (hop : op6 w = op) (ha : f25 w = a)
    (hb : f20 w = b) (hsop : sop4 w = sop) : Code.long (i12 op a b sop (imm12 w)) = .long w := by
  subst hop ha hb hsop
  simp only [i12, op6, f25, f20, sop4, imm12, BitVec.extractLsb'_append_extractLsb'_eq_extractLsb',
    BitVec.extractLsb'_eq_self]

theorem long_i16 {w : Word} {op : BitVec 6} {a b : BitVec 5} (hop : op6 w = op) (ha : f25 w = a) (hb : f20 w = b) :
    Code.long (i16 op a b (imm16 w)) = .long w := by
  subst hop ha hb
  simp only [i16, op6, f25, f20, imm16, BitVec.extractLsb'_append_extractLsb'_eq_extractLsb',
    BitVec.extractLsb'_eq_self]

theorem long_j26 {w : Word} {op : BitVec 6} (hop : op6 w = op) : Code.long (j26 op (off26 w)) = .long w := by
  subst hop
  simp only [j26, op6, off26, BitVec.extractLsb'_append_extractLsb'_eq_extractLsb',
    BitVec.extractLsb'_eq_self]

theorem short_j10 {h : Half} {op : BitVec 5} {b : BitVec 1} (hop : h11 h = op) (hb : h10 h = b) :
    Code.short (j10 op b (h9 h)) = .short h := by
  subst hop hb
  simp only [j10, h11, h10, h9, BitVec.extractLsb'_append_extractLsb'_eq_extractLsb', BitVec.extractLsb'_eq_self]

theorem short_s16 {h : Half} {op y : BitVec 5} {b : BitVec 1} {x : BitVec 2} {s : BitVec 3} (hop : h11 h = op) (hb : h10 h = b)
    (hx : h98 h = x) (hs : h5 h = s) (hy : h4 h = y) : Code.short (s16 op b x s y) = .short h := by
  subst hop hb hx hs hy
  simp only [s16, h11, h10, h98, h5, h4, BitVec.extractLsb'_append_extractLsb'_eq_extractLsb', BitVec.extractLsb'_eq_self]

theorem short_i8 {h : Half} {op : BitVec 5} (hop : h11 h = op) : Code.short (i8 op (h8 h) (h7 h)) = .short h := by
  subst hop
  simp only [i8, h11, h8, h7, BitVec.extractLsb'_append_extractLsb'_eq_extractLsb', BitVec.extractLsb'_eq_self]

theorem short_i5 {h : Half} {op y : BitVec 5} {a b : BitVec 3} (hop : h11 h = op) (ha : h8 h = a) (hb : h5 h = b)
    (hy : h4 h = y) : Code.short (i5 op a b y) = .short h := by
  subst hop ha hb hy
  simp only [i5, h11, h8, h5, h4, BitVec.extractLsb'_append_extractLsb'_eq_extractLsb', BitVec.extractLsb'_eq_self]

theorem short_t16 {h : Half} {op : BitVec 5} {sop : BitVec 2} (hop : h11 h = op) (hsop : h1 h = sop) :
    Code.short (t16 op (h8 h) (h5 h) (h42 h) sop) = .short h := by
  subst hop hsop
  simp only [t16, h11, h8, h5, h42, h1, BitVec.extractLsb'_append_extractLsb'_eq_extractLsb', BitVec.extractLsb'_eq_self]

theorem short_d16 {h : Half} {op : BitVec 5} {b : BitVec 1} {a c : BitVec 4} {sop : BitVec 2} (hop : h11 h = op) (hb : h10 h = b)
    (ha : h6 h = a) (hc : h52 h = c) (hsop : h1 h = sop) : Code.short (d16 op b a c sop) = .short h := by
  subst hop hb ha hc hsop
  simp only [d16, h11, h10, h6, h52, h1, BitVec.extractLsb'_append_extractLsb'_eq_extractLsb', BitVec.extractLsb'_eq_self]

/-- The list field of PUSH and POP is its R15 bit and LIST1 (R455). -/
theorem h4_eq_r15_list1 (h : Half) : h4 h = hR15 h ++ hList1 h := by
  simp only [h4, hR15, hList1, BitVec.extractLsb'_append_extractLsb'_eq_extractLsb']

theorem h4_eq_of_sop {h : Half} {a : BitVec 3} {sop : BitVec 2} (ha : h42 h = a) (hsop : h1 h = sop) : h4 h = a ++ sop := by
  simp only [← ha, ← hsop, h4, h42, h1, BitVec.extractLsb'_append_extractLsb'_eq_extractLsb']

theorem eq_zero_of_append_eq_zero {n m : Nat} {x : BitVec n} {y : BitVec m} (h : x ++ y = 0) : x = 0 ∧ y = 0 := by
  constructor
  · rw [← BitVec.extractLsb'_append_eq_left (a := x) (b := y), h]; exact BitVec.extractLsb'_zero
  · rw [← BitVec.extractLsb'_append_eq_right (a := x) (b := y), h]; exact BitVec.extractLsb'_zero

/-! ### Rows of the decoder -/

/-- If a row of the decoder answers an instruction, it is well formed and encoded as `c`. -/
def Encodes (c : Code) (o : Option Instr) : Prop := ∀ i, o = some i → i.WellFormed = true ∧ i.code = c

theorem encodes_none {c : Code} : Encodes c none := nofun

theorem encodes_some {c : Code} {i : Instr} (hw : i.WellFormed = true) (hc : i.code = c) : Encodes c (some i) := by
  rintro _ ⟨⟩
  exact ⟨hw, hc⟩

theorem encodes_ifZero {c : Code} {n : Nat} {b : BitVec n} {i : Instr} (hw : i.WellFormed = true)
    (hc : b = 0 → i.code = c) : Encodes c (ifZero b i) := by
  intro j hj
  obtain ⟨hb, ⟨⟩⟩ := Option.ite_none_right_eq_some.mp hj
  exact ⟨hw, hc hb⟩

theorem encodes_ifWellFormed {c : Code} {n : Nat} {b : BitVec n} {i : Instr} (hc : b = 0 → i.code = c) :
    Encodes c ((ifZero b i).bind ifWellFormed) := by
  intro j hj
  obtain ⟨k, hk, hkj⟩ := Option.bind_eq_some_iff.mp hj
  obtain ⟨hb, ⟨⟩⟩ := Option.ite_none_right_eq_some.mp hk
  obtain ⟨hw, ⟨⟩⟩ := Option.ite_none_right_eq_some.mp hkj
  exact ⟨hw, hc hb⟩

/-! ### The 32-bit map -/

theorem encodes_decodeAlu32 {w : Word} (hop : op6 w = 0b110001#6) : Encodes (.long w) (decodeAlu32 w) := by
  unfold decodeAlu32
  split
  case h_5 =>
    -- MVC
    refine encodes_ifZero rfl fun h => ?_
    obtain ⟨ha, hb⟩ := eq_zero_of_append_eq_zero h
    exact long_r32 hop ha hb ‹_› ‹_› rfl
  case h_19 =>
    -- BTSTI
    exact encodes_ifZero rfl fun h => long_r32 hop rfl rfl ‹_› ‹_› h
  case h_32 =>
    -- BMASKI
    exact encodes_ifZero rfl fun h => long_r32 hop rfl h ‹_› ‹_› rfl
  case h_33 | h_34 | h_35 | h_36 | h_37 | h_38 =>
    -- XTRB, FF0, FF1
    exact encodes_ifZero rfl fun h => long_r32 hop h rfl ‹_› ‹_› rfl
  case h_40 => exact encodes_none
  all_goals exact encodes_some rfl (long_r32 hop rfl rfl ‹_› ‹_› rfl)

/-- A system instruction without operands: every operand field is drawn as zeros (R147). -/
theorem long_r32_of_zero {w : Word} {sop : BitVec 6} {pc : BitVec 5} (hop : op6 w = 0b110000#6) (hsop : sop6 w = sop)
    (hpc : pcode w = pc) (h : f25 w ++ f20 w ++ f4 w = 0#15) : Code.long (r32 0b110000#6 0#5 0#5 sop pc 0#5) = .long w := by
  obtain ⟨hab, hz⟩ := eq_zero_of_append_eq_zero h
  obtain ⟨ha, hb⟩ := eq_zero_of_append_eq_zero hab
  exact long_r32 hop ha hb hsop hpc hz

theorem encodes_decodeSystem32 {w : Word} (hop : op6 w = 0b110000#6) : Encodes (.long w) (decodeSystem32 w) := by
  unfold decodeSystem32
  split
  case h_12 | h_13 =>
    -- MFCR, MTCR
    exact encodes_some rfl (long_r32 hop rfl rfl ‹_› ‹_› rfl)
  case h_14 | h_15 =>
    -- PSRCLR, PSRSET
    refine encodes_ifWellFormed fun h => ?_
    obtain ⟨hb, hz⟩ := eq_zero_of_append_eq_zero h
    exact long_r32 hop rfl hb ‹_› ‹_› hz
  case h_16 => exact encodes_none
  all_goals exact encodes_ifZero rfl (long_r32_of_zero hop ‹_› ‹_›)

theorem encodes_decodeImm16 {w : Word} (hop : op6 w = 0b111010#6) : Encodes (.long w) (decodeImm16 w) := by
  unfold decodeImm16
  split
  case h_1 | h_2 | h_3 =>
    -- BR, BF, BT
    exact encodes_ifZero rfl fun h => long_i16 hop ‹_› h
  case h_10 => exact encodes_none
  all_goals exact encodes_some rfl (long_i16 hop ‹_› rfl)

theorem encodes_decodeLoad32 {w : Word} (hop : op6 w = 0b110110#6) : Encodes (.long w) (decodeLoad32 w) := by
  unfold decodeLoad32
  split
  case h_6 => exact encodes_none
  all_goals exact encodes_some rfl (long_i12 hop rfl rfl ‹_›)

theorem encodes_decodeStore32 {w : Word} (hop : op6 w = 0b110111#6) : Encodes (.long w) (decodeStore32 w) := by
  unfold decodeStore32
  split
  case h_4 => exact encodes_none
  all_goals exact encodes_some rfl (long_i12 hop rfl rfl ‹_›)

theorem encodes_decodeImm12 {w : Word} (hop : op6 w = 0b111001#6) : Encodes (.long w) (decodeImm12 w) := by
  unfold decodeImm12
  split
  case h_6 => exact encodes_none
  all_goals exact encodes_some rfl (long_i12 hop rfl rfl ‹_›)

theorem encodes_decodeLdm {w : Word} (hop : op6 w = 0b110100#6) : Encodes (.long w) (decodeLdm w) := by
  unfold decodeLdm
  split
  · exact encodes_some rfl (long_r32 hop rfl rfl ‹_› ‹_› rfl)
  · exact encodes_none

theorem encodes_decodeStm {w : Word} (hop : op6 w = 0b110101#6) : Encodes (.long w) (decodeStm w) := by
  unfold decodeStm
  split
  · exact encodes_some rfl (long_r32 hop rfl rfl ‹_› ‹_› rfl)
  · exact encodes_none

theorem encodes_decode32 (w : Word) : Encodes (.long w) (decode32 w) := by
  unfold decode32
  split
  · exact encodes_decodeSystem32 ‹_›
  · exact encodes_decodeAlu32 ‹_›
  · exact encodes_decodeLdm ‹_›
  · exact encodes_decodeStm ‹_›
  · exact encodes_decodeLoad32 ‹_›
  · exact encodes_decodeStore32 ‹_›
  · exact encodes_some rfl (long_j26 ‹_›)
  · exact encodes_decodeImm12 ‹_›
  · exact encodes_decodeImm16 ‹_›
  · exact encodes_some rfl (long_i16 ‹_› rfl rfl)
  · exact encodes_none

/-! ### The 16-bit map -/

/-- IMM7 is IMM2 and IMM5 side by side (R139). -/
theorem short_imm7 {h : Half} {s : BitVec 3} (hop : h11 h = 0b00010#5) (hb : h10 h = 1#1) (hs : h5 h = s) :
    Code.short (s16 0b00010#5 1#1 ((h98 h ++ h4 h).extractLsb' 5 2) s ((h98 h ++ h4 h).extractLsb' 0 5)) = .short h :=
  short_s16 hop hb BitVec.extractLsb'_append_eq_left.symm hs BitVec.extractLsb'_append_eq_right.symm

theorem encodes_decodeStack16 {h : Half} (hop : h11 h = 0b00010#5) (hb : h10 h = 1#1) : Encodes (.short h) (decodeStack16 h) := by
  unfold decodeStack16
  split
  case h_1 | h_2 =>
    -- ADDI(SP), SUBI(SP)
    exact encodes_some rfl (short_imm7 hop hb ‹_›)
  case h_3 => exact encodes_none
  case h_4 =>
    -- NIE, NIR, IPUSH, IPOP
    split
    case h_5 => exact encodes_none
    all_goals exact encodes_ifZero rfl fun hz => short_s16 hop hb hz ‹_› ‹_›
  case h_5 | h_7 =>
    -- POP, PUSH
    exact encodes_ifWellFormed fun hz => short_s16 hop hb hz ‹_› (h4_eq_r15_list1 h)
  case h_6 | h_8 =>
    -- BPOP, BPUSH
    split
    case h_3 => exact encodes_none
    all_goals exact encodes_ifZero rfl fun hz => short_s16 hop hb hz ‹_› (h4_eq_of_sop rfl ‹_›)

theorem encodes_decodeCompareImm16 {h : Half} (hop : h11 h = 0b00111#5) : Encodes (.short h) (decodeCompareImm16 h) := by
  unfold decodeCompareImm16
  split
  case h_4 => exact encodes_none
  case h_8 =>
    -- JMPIX
    exact encodes_ifZero rfl fun hz => short_i5 hop rfl ‹_› (h4_eq_of_sop hz rfl)
  all_goals exact encodes_some rfl (short_i5 hop rfl ‹_› rfl)

theorem encodes_decodeThree16 {h : Half} (hop : h11 h = 0b01011#5) : Encodes (.short h) (decodeThree16 h) := by
  unfold decodeThree16
  split
  all_goals exact encodes_some rfl (short_t16 hop ‹_›)

theorem encodes_decodeTwo16 (h : Half) : Encodes (.short h) (decodeTwo16 h) := by
  unfold decodeTwo16
  split
  case h_8 =>
    -- MVCV
    exact encodes_ifZero rfl fun hz => short_d16 ‹_› ‹_› rfl hz ‹_›
  case h_12 | h_25 | h_26 =>
    -- TSTNBZ, JMP, JSR
    exact encodes_ifZero rfl fun hz => short_d16 ‹_› ‹_› hz rfl ‹_›
  case h_30 => exact encodes_none
  all_goals exact encodes_some rfl (short_d16 ‹_› ‹_› rfl rfl ‹_›)

/-- The halfword of zeros is BKPT, every other one of its row is a load with a negative offset (R143). -/
theorem encodes_lrw16_negative {h : Half} (hop : h11 h = 0b00000#5) (hb : h10 h = 0#1) :
    Encodes (.short h) (if h = 0 then some .bkpt16 else some (.lrw16 (h5 h) (lrw16Offset 0 (h98 h ++ h4 h)))) := by
  have fields : Code.short (s16 0b00000#5 0#1 (h98 h) (h5 h) (h4 h)) = .short h := short_s16 hop hb rfl rfl rfl
  have offset : lrw16Offset 0 (h98 h ++ h4 h) = 1#1 ++ (~~~h98 h ++ ~~~h4 h) := congrArg (1#1 ++ ·) BitVec.not_append
  split
  next hz => exact encodes_some rfl (congrArg Code.short hz.symm)
  next hz =>
    rw [offset]
    refine encodes_some ((lrw16Ok_one_append _ _ _).mpr ?_) (Eq.trans (congrArg Code.short ?_) fields)
    · rw [BitVec.not_not, BitVec.not_not, Code.short.inj fields]; exact hz
    · rw [lrw16Code_one_append, BitVec.not_not, BitVec.not_not]

theorem encodes_lrw16_positive {h : Half} (hop : h11 h = 0b00010#5) (hb : h10 h = 0#1) :
    Encodes (.short h) (some (.lrw16 (h5 h) (lrw16Offset 1 (h98 h ++ h4 h)))) :=
  encodes_some (lrw16Ok_zero_append _ _)
    ((congrArg Code.short (lrw16Code_zero_append _ _ _)).trans (short_s16 hop hb rfl rfl rfl))

/-- IMM8 of the loads and stores at SP is bits 10:8 and IMM5 side by side (R139). -/
theorem short_imm8 {h : Half} {op : BitVec 5} (hop : h11 h = op) :
    Code.short (i5 op ((h8 h ++ h4 h).extractLsb' 5 3) (h5 h) ((h8 h ++ h4 h).extractLsb' 0 5)) = .short h :=
  short_i5 hop BitVec.extractLsb'_append_eq_left.symm rfl BitVec.extractLsb'_append_eq_right.symm

theorem encodes_decode16 (h : Half) : Encodes (.short h) (decode16 h) := by
  unfold decode16
  split
  case h_1 => exact encodes_lrw16_negative ‹_› ‹_›
  case h_2 | h_3 | h_4 =>
    -- BR, BT, BF
    exact encodes_some rfl (short_j10 ‹_› ‹_›)
  case h_5 => exact encodes_lrw16_positive ‹_› ‹_›
  case h_6 => exact encodes_decodeStack16 ‹_› ‹_›
  case h_7 | h_8 | h_9 | h_10 =>
    -- ADDI(SP) with RZ, ADDI, SUBI, MOVI
    exact encodes_some rfl (short_i8 ‹_›)
  case h_11 => exact encodes_decodeCompareImm16 ‹_›
  case h_15 => exact encodes_decodeThree16 ‹_›
  case h_16 | h_17 | h_18 | h_19 => exact encodes_decodeTwo16 h
  case h_23 | h_27 =>
    -- LD(SP), ST(SP)
    exact encodes_some rfl (short_imm8 ‹_›)
  case h_28 => exact encodes_none
  all_goals exact encodes_some rfl (short_i5 ‹_› rfl rfl rfl)

/-- What the two maps answer is well formed and encoded as what they read. -/
theorem encodes_decoded (c : Code) : Encodes c c.decoded := by
  cases c with
  | short h => exact encodes_decode16 h
  | long w => exact encodes_decode32 w

/-- What decodes is an encoding, read by one of the two maps, and what follows it. -/
theorem halves_of_decode {hs rest : List Half} {i : Instr} (h : decode hs = .instr i rest) :
    ∃ c : Code, c.decoded = some i ∧ hs = c.halves ++ rest := by
  cases hs with
  | nil => cases h
  | cons x xs =>
    simp only [decode] at h
    split at h
    next =>
      split at h
      next => cases h
      next l rest' =>
        split at h
        next j hj =>
          cases h
          refine ⟨.long (x ++ l), hj, ?_⟩
          rw [Code.halves, BitVec.extractLsb'_append_eq_left, BitVec.extractLsb'_append_eq_right]; rfl
        next => cases h
    next =>
      split at h
      next j hj =>
        cases h
        exact ⟨.short x, hj, rfl⟩
      next => cases h

/-- Settles O2: the halfwords read are those of an encoding, and the row that answers gives that encoding back. -/
theorem decodedIsEncoded : Obligations.DecodedIsEncoded := by
  unfold Obligations.DecodedIsEncoded
  intro hs rest i h
  obtain ⟨c, hc, rfl⟩ := halves_of_decode h
  obtain ⟨hw, rfl⟩ := encodes_decoded c i hc
  exact ⟨hw, congrArg (· ++ rest) (encode_eq_halves i).symm⟩

end Sys2Proof
end

section
/-! The fetch at a boundary (20_memory R97, 60_exceptions R631): what it answers when the access is permitted and when it is
denied, and what the step makes of an encoding that is no instruction (30_encoding R155, R156). -/

namespace Sys2Proof.Machine

/-! ### An undisturbed step -/

theorem boundary_of_undisturbed {s : State} (h : Undisturbed s) : boundary s = runInstr s := by
  obtain ⟨-, -, hunsafe, -, hdebug, hint⟩ := h
  simp only [boundary, hunsafe, hdebug, hint, Bool.false_eq_true, if_false]

theorem step_of_undisturbed {s : State} (h : Undisturbed s) : step s = tickOutcome (runInstr s) := by
  have running := boundary_of_undisturbed h
  obtain ⟨hmode, hphase, -, hreset, -, -⟩ := h
  rw [step, stepCore_of_normal hreset hmode, normalStep_of_running hphase, running]

/-- The exception a fetch ends in is taken at the instruction (60_exceptions R610, R626). -/
theorem step_of_fetch_exc {s : State} {e : Exc} {v : Byte} (h : Undisturbed s) (hr : VectorReadable s v)
    (hv : v = if s.psr.ee then e.vector else 8) (hf : fetchDecode s = .exc e) :
    step s = .next (afterEntry s v s.pc).tick := by
  subst hv
  rw [step_of_undisturbed h, runInstr, hf]
  exact congrArg tickOutcome (takeVector_of_readable hr s.pc)

/-! ### The fetch of a halfword -/

theorem fetchHalf_of_permits {s : State} {a : Word} (h : Permits s .fetch s.psr.s (byteAddresses a 2) (byteAddresses a 2))
    (hw : rewritten s (byteAddresses a 2) = false) : fetchHalf s a = .done (halfAt s a) := by
  simp only [fetchHalf, checkAccess_of_permits h, hw, Bool.false_eq_true, if_false, halfAt]

theorem fetchHalf_of_denies {s : State} {a : Word} (h : Denies s .fetch s.psr.s (byteAddresses a 2) (byteAddresses a 2)) :
    fetchHalf s a = .exc .accessError := by
  simp only [fetchHalf, checkAccess_of_denies h]

theorem fetchHalf_first {s : State} (h : CanFetch s 2) : fetchHalf s s.pc = .done (halfAt s s.pc) :=
  fetchHalf_of_permits h.1 h.2

theorem byteAddresses_halves (a : Word) : byteAddresses a 4 = byteAddresses a 2 ++ byteAddresses (a + 2) 2 :=
  byteAddresses_append a 2 2

theorem byteAddresses_drop_two (a : Word) : (byteAddresses a 4).drop 2 = byteAddresses (a + 2) 2 := by
  rw [byteAddresses_halves]; rfl

theorem rewritten_append (s : State) (l l' : List Word) : rewritten s (l ++ l') = (rewritten s l || rewritten s l') := by
  simp only [rewritten, List.any_append, Bool.and_or_distrib_left]

/-- The fetch of a word is the fetch of its two halfwords. -/
theorem fetchHalf_both {s : State} (h : CanFetch s 4) :
    fetchHalf s s.pc = .done (halfAt s s.pc) ∧ fetchHalf s (s.pc + 2) = .done (halfAt s (s.pc + 2)) := by
  obtain ⟨⟨hmpu, hbus⟩, hcache⟩ := h
  simp only [byteAddresses_halves, List.forall_mem_append, rewritten_append, Bool.or_eq_false_iff] at hmpu hbus hcache
  obtain ⟨hmpu₁, hmpu₂⟩ := hmpu
  obtain ⟨hbus₁, hbus₂⟩ := hbus
  obtain ⟨hcache₁, hcache₂⟩ := hcache
  exact ⟨fetchHalf_of_permits ⟨hmpu₁, hbus₁⟩ hcache₁, fetchHalf_of_permits ⟨hmpu₂, hbus₂⟩ hcache₂⟩

/-! ### Fetch and decode -/

theorem isLong_of_illegal16 {h h' : Half} (hd : decode [h] = .illegal16 h') : isLong h = false := by
  refine Bool.eq_false_iff.mpr fun hl => ?_
  simp only [decode, hl, if_true] at hd
  cases hd

theorem isLong_of_illegal32 {h l : Half} {w : Word} (hd : decode [h, l] = .illegal32 w) : isLong h = true := by
  by_contra hl
  simp only [decode, if_neg hl] at hd
  cases hi : decode16 h <;> rw [hi] at hd <;> cases hd

theorem fetchDecode_of_short {s : State} {h : Half} (hf : fetchHalf s s.pc = .done h) (hl : isLong h = false) :
    fetchDecode s = Fetched.ofDecoded (decode [h]) := by
  simp only [fetchDecode, hf, hl, Bool.false_eq_true, if_false]

theorem fetchDecode_of_long {s : State} {h l : Half} (hf : fetchHalf s s.pc = .done h) (hl : isLong h = true)
    (hf' : fetchHalf s (s.pc + 2) = .done l) : fetchDecode s = Fetched.ofDecoded (decode [h, l]) := by
  simp only [fetchDecode, hf, hl, hf', if_true]

theorem fetchDecode_of_first_exc {s : State} {e : Exc} (hf : fetchHalf s s.pc = .exc e) : fetchDecode s = .exc e := by
  simp only [fetchDecode, hf]

theorem fetchDecode_of_second_exc {s : State} {h : Half} {e : Exc} (hf : fetchHalf s s.pc = .done h) (hl : isLong h = true)
    (hf' : fetchHalf s (s.pc + 2) = .exc e) : fetchDecode s = .exc e := by
  simp only [fetchDecode, hf, hl, hf', if_true]

/-- Settles O46: each of the four fetches ends in its exception, which the step takes. -/
theorem fetchTraps : Obligations.FetchTraps := by
  unfold Obligations.FetchTraps
  intro s v hs hr trap word
  have take (e : Exc) (hv : v = if s.psr.ee then e.vector else 8) (hf : fetchDecode s = .exc e) : trap :=
    step_of_fetch_exc hs hr hv hf
  refine ⟨fun hv => ⟨fun h hf hd => take .illegal hv ?_, fun w hf hd => take .illegal hv ?_⟩,
    fun hv => ⟨fun hdeny => take .accessError hv ?_, fun hf hl hdeny => take .accessError hv ?_⟩⟩
  · rw [fetchDecode_of_short (fetchHalf_first hf) (isLong_of_illegal16 hd), hd]; rfl
  · obtain ⟨hfirst, hsecond⟩ := fetchHalf_both hf
    rw [fetchDecode_of_long hfirst (isLong_of_illegal32 hd) hsecond, hd]; rfl
  · exact fetchDecode_of_first_exc (fetchHalf_of_denies hdeny)
  · refine fetchDecode_of_second_exc (fetchHalf_first hf) hl (fetchHalf_of_denies ?_)
    rwa [← byteAddresses_drop_two]

end Sys2Proof.Machine
end

section
/-! What an instruction leaves unchanged (40_addsub R200, 46_loadstore R430, 60_exceptions R612): the registers outside its
destinations and the bytes outside its store targets, read off the forms of its next state. -/

namespace Sys2Proof.Machine

/-! ### Registers -/

theorem partial_reg {i : Instr} {s u : State} (hu : Partial i s u) {r : Slot} (hr : r ∉ destinations s i) :
    u.reg r = s.reg r := by
  obtain ⟨_, _, _, _, _, hkeep, _⟩ := hu
  exact hkeep r hr

/-- CR<14,1> is the one control register that is a general register (10_state R63). -/
theorem reg_writeCr_of_ne (s : State) {cr : Cr} {r : Slot} (h : cr = .userSp → r ≠ slotUserSp) (v : Word) :
    (writeCr s v cr).reg r = s.reg r := by
  cases cr
  case userSp => exact reg_setReg_ne s v (h rfl)
  case ccr | prsr | pacr => unfold writeCr; dsimp only; split <;> rfl
  all_goals rfl

theorem systemEffect_reg {i : Instr} {s t : State} (ht : SystemEffect i s t) (hsr : t.softResets = s.softResets)
    {r : Slot} (hr : r ∉ destinations s i) : t.reg r = s.reg r := by
  cases ht with
  | writeCr x crz sel cr v hi hcr b =>
    refine reg_writeCr_of_ne s (fun hsp => ?_) v
    subst hi hsp
    simpa only [destinations, if_pos hcr, List.mem_singleton] using hr
  | reset _ _ _ _ _ ht => exact absurd hsr (softwareReset_ne ht)
  | nie _ u hu => exact (partial_reg hu hr :)
  | nir hi v w a =>
    subst hi
    exact reg_setReg_ne _ a (List.ne_of_not_mem_cons hr)
  | enables | rte | lowPower => rfl

/-- Settles O51: registers are written only as partial work, by NIR to SP, by MTCR to CR<14,1>, and by a software reset. -/
theorem registerFrame : Obligations.RegisterFrame := by
  unfold Obligations.RegisterFrame
  intro i s t r h hsr hr
  cases exec_outcomes i s t h with
  | completes _ _ _ _ hu | exception _ _ _ hu | interrupt _ _ _ hu => exact (partial_reg hu hr :)
  | debug => rfl
  | system _ _ _ ht => exact systemEffect_reg ht hsr hr

/-! ### Memory -/

theorem partial_read {i : Instr} {s u : State} (hu : Partial i s u) (hwf : s.mem.wf = true) {a : Word}
    (ha : a ∉ storeTargets s i) : u.mem.read a = s.mem.read a := by
  obtain ⟨_, _, _, _, rfl, _, hmem⟩ := hu
  obtain ⟨_, hkeep⟩ := hmem hwf
  exact hkeep a ha

@[simp] theorem writeCr_mem (s : State) (v : Word) (cr : Cr) : (writeCr s v cr).mem = s.mem := by
  cases cr
  case ccr | prsr | pacr => unfold writeCr; dsimp only; split <;> rfl
  all_goals rfl

theorem softwareReset_mem (s : State) : Ensures (softwareReset s) fun t => t.mem = s.mem :=
  ensures_softwareReset (fun _ => rfl) fun _ w => (setPc_mem _ w).trans (resetRegisters_mem _)

theorem systemEffect_read {i : Instr} {s t : State} (ht : SystemEffect i s t) (hwf : s.mem.wf = true) {a : Word}
    (ha : a ∉ storeTargets s i) : t.mem.read a = s.mem.read a := by
  cases ht with
  | writeCr _ _ _ cr v => exact congrArg (Memory.read · a) (writeCr_mem s v cr)
  | reset _ _ _ _ _ ht => rw [softwareReset_mem s t ht]
  | nie _ u hu => exact (partial_read hu hwf ha :)
  | nir | enables | rte | lowPower => rfl

/-- Settles O52: memory is written only as partial work; a reset does not change it (10_state R66). -/
theorem memoryFrame : Obligations.MemoryFrame := by
  unfold Obligations.MemoryFrame
  intro i s t a h hwf ha
  cases exec_outcomes i s t h with
  | completes _ _ _ _ hu | exception _ _ _ hu | interrupt _ _ _ hu => exact (partial_read hu hwf ha :)
  | debug => rfl
  | system _ _ _ ht => exact systemEffect_read ht hwf ha

end Sys2Proof.Machine
end

section
/-! SUPPORT. Where the shapes of 32-bit register instructions lead when their fields name registers, and what immediates stand
for as numbers (30_encoding R141, R142). -/

namespace Sys2Proof.Machine

/-! ### Shapes -/

section Shapes

variable {s : State} {rz rx ry : BitVec 5} {z x y : Slot}

theorem alu3_of_slots (hz : s.slotOf rz = some z) (hx : s.slotOf rx = some x) (hy : s.slotOf ry = some y)
    (f : Word → Word → Word) : alu3 f rz rx ry s = .next ((s.setReg z (f (s.reg x) (s.reg y))).advance 4) := by
  simp only [alu3, withReg_of_slot hx, withReg_of_slot hy, withReg_of_slot hz, finish]

theorem alu3c_of_slots (hz : s.slotOf rz = some z) (hx : s.slotOf rx = some x) (hy : s.slotOf ry = some y)
    (f : Word → Word → Bool → Word × Bool) :
    alu3c f rz rx ry s = .next (((s.setReg z (f (s.reg x) (s.reg y) s.psr.c).1).setC
      (f (s.reg x) (s.reg y) s.psr.c).2).advance 4) := by
  simp only [alu3c, withReg_of_slot hx, withReg_of_slot hy, withReg_of_slot hz, finish]

theorem alu2_of_slots (hz : s.slotOf rz = some z) (hx : s.slotOf rx = some x) (f : Word → Word) :
    alu2 f rz rx s = .next ((s.setReg z (f (s.reg x))).advance 4) := by
  simp only [alu2, withReg_of_slot hx, withReg_of_slot hz, finish]

theorem alu2If_of_slots (hz : s.slotOf rz = some z) (hx : s.slotOf rx = some x) (cond : Bool) (f : Word → Word) :
    alu2If cond f rz rx s = .next (if cond then (s.setReg z (f (s.reg x))).advance 4 else s.advance 4) := by
  simp only [alu2If, withReg_of_slot hx, withReg_of_slot hz, finish, apply_ite (State.advance · 4)]

end Shapes

/-! ### Immediates -/

theorem zimm_eq_ofNat {n : Nat} (f : BitVec n) : zimm f = BitVec.ofNat 32 f.toNat := (BitVec.ofNat_toNat 32 f).symm

/-- An offset scaled by 4 (30_encoding R142). -/
theorem scaled_two_eq_ofNat {n : Nat} (f : BitVec n) : scaled f 2 = BitVec.ofNat 32 (4 * f.toNat) := by
  apply BitVec.eq_of_toNat_eq
  simp [scaled, Nat.shiftLeft_eq, Nat.mul_comm]

end Sys2Proof.Machine
end

section
/-! The add and subtract instructions (40_addsub R201 to R215), and MULT (44_move_bit_extract R367). -/

namespace Sys2Proof.Machine

theorem shiftLeft_eq_twoPow_mul (v : Word) (k : Nat) : v <<< k = BitVec.twoPow 32 k * v := by
  rw [BitVec.shiftLeft_eq_mul_twoPow, BitVec.mul_comm]

theorem shiftLeft_one_eq (v : Word) : v <<< 1 = 2 * v := shiftLeft_eq_twoPow_mul v 1

theorem shiftLeft_two_eq (v : Word) : v <<< 2 = 4 * v := shiftLeft_eq_twoPow_mul v 2

theorem ofNat_toNat_mul_toNat (v w : Word) : BitVec.ofNat 32 (v.toNat * w.toNat) = v * w := by
  rw [BitVec.ofNat_mul, BitVec.ofNat_toNat, BitVec.ofNat_toNat, BitVec.setWidth_eq, BitVec.setWidth_eq]

/-- Settles O8: each instruction is one of the shapes, the 16-bit ones by definition; what is left is its arithmetic. -/
theorem addSubResults : Obligations.AddSubResults := by
  unfold Obligations.AddSubResults
  refine ⟨fun s rz rx ry z x y imm12 hz hx hy => ?_, fun s rz rx => ?_, fun s rz rx ry imm3 imm8 imm7 => ?_⟩
  · have three := alu3_of_slots hz hx hy
    have two := alu2_of_slots hz hx
    refine ⟨three (· + ·), three (· - ·), ?ixh, ?ixw, ?mult, two (· + oimm imm12), two (· - oimm imm12)⟩
    case ixh => rw [← shiftLeft_one_eq]; exact three fun v w => v + w <<< 1
    case ixw => rw [← shiftLeft_two_eq]; exact three fun v w => v + w <<< 2
    case mult => rw [ofNat_toNat_mul_toNat]; exact three (· * ·)
  · refine ⟨rfl, rfl, ?mult⟩
    case mult => rw [ofNat_toNat_mul_toNat]; rfl
  · refine ⟨rfl, rfl, rfl, rfl, rfl, rfl, ?rsp, ?spAdd, ?spSub⟩
    case rsp => rw [← scaled_two_eq_ofNat]; rfl
    case spAdd => rw [← scaled_two_eq_ofNat]; rfl
    case spSub => rw [← scaled_two_eq_ofNat]; rfl

/-- The difference less the borrow is the difference of what is taken in all. -/
theorem subWithBorrow_eq (a b : Word) (c : Bool) :
    subWithBorrow a b c =
      let taken := b.toNat + (if c then 0 else 1)
      (a - BitVec.ofNat 32 taken, decide (taken ≤ a.toNat)) := by
  have borrow : 1 - carryIn c = if c then 0 else 1 := by cases c <;> rfl
  simp only [subWithBorrow, borrow, BitVec.ofNat_add, BitVec.ofNat_toNat, BitVec.setWidth_eq, sub_add_eq_sub_sub]

/-- Settles O9: both are the shape that writes C, with the 33-bit sum and the borrow. -/
theorem carryResults : Obligations.CarryResults := by
  unfold Obligations.CarryResults
  refine ⟨fun s rz rx ry z x y hz hx hy => ⟨?_, ?_⟩, fun s rz rx => ⟨rfl, ?_⟩⟩
  · exact alu3c_of_slots hz hx hy addWithCarry
  · intro taken
    have h := alu3c_of_slots hz hx hy subWithBorrow
    rw [subWithBorrow_eq] at h
    exact h
  · intro taken
    show alu16c subWithBorrow rz rx s = _
    rw [alu16c, subWithBorrow_eq]
    rfl

/-- Settles O10: each is the shape that acts on a condition, which is C or its complement. -/
theorem conditionalResults : Obligations.ConditionalResults := by
  unfold Obligations.ConditionalResults
  intro s rz rx imm5 z x hz hx
  have conditional := alu2If_of_slots hz hx
  rw [← zimm_eq_ofNat]
  refine ⟨⟨conditional s.psr.c (· + zimm imm5), ?incf⟩, ⟨conditional s.psr.c (· - zimm imm5), ?decf⟩⟩
  case incf => exact (conditional (!s.psr.c) (· + zimm imm5)).trans (by cases s.psr.c <;> rfl)
  case decf => exact (conditional (!s.psr.c) (· - zimm imm5)).trans (by cases s.psr.c <;> rfl)

end Sys2Proof.Machine
end

section
/-! The logical instructions (41_logic R240 to R248). -/

namespace Sys2Proof.Machine

theorem alu16_eq_next (f : Word → Word → Word) (rz rx : BitVec 4) (s : State) :
    alu16 f rz rx s = .next ((s.setReg (slot4 s.psr.s rz) (f (s.reg4 rz) (s.reg4 rx))).advance 2) := rfl

/-- Settles O11: each is one of three shapes, and its bitwise function is the shape's parameter; a plain immediate is
zero-extended by definition, before ANDNI complements it. -/
theorem logicResults : Obligations.LogicResults := by
  unfold Obligations.LogicResults
  refine ⟨fun s rz rx ry z x y imm12 imm16 hz hx hy => ?long, fun s rz rx => ?short⟩
  case long =>
    have three := alu3_of_slots hz hx hy
    have two := alu2_of_slots hz hx
    exact ⟨three (· &&& ·), three fun v w => v &&& ~~~w, three (· ||| ·), three (· ^^^ ·), three fun v w => ~~~(v ||| w),
      two (· &&& zimm imm12), two (· &&& ~~~zimm imm12), two (· ^^^ zimm imm12), two (· ||| zimm imm16)⟩
  case short =>
    have two (f : Word → Word → Word) := alu16_eq_next f rz rx s
    exact ⟨two (· &&& ·), two fun v w => v &&& ~~~w, two (· ||| ·), two (· ^^^ ·), two fun v w => ~~~(v ||| w)⟩

end Sys2Proof.Machine
end

section
/-! The shift and rotate instructions (42_shift R270 to R282). -/

namespace Sys2Proof.Machine

/-! ### Shapes -/

theorem alu2c_of_slots {s : State} {rz rx : BitVec 5} {z x : Slot} (hz : s.slotOf rz = some z) (hx : s.slotOf rx = some x)
    (f : Word → Bool → Word × Bool) :
    alu2c f rz rx s =
      .next (((s.setReg z (f (s.reg x) s.psr.c).1).setC (f (s.reg x) s.psr.c).2).advance 4) := by
  simp only [alu2c, withReg_of_slot hx, withReg_of_slot hz, finish]

theorem imm16op_eq_next (f : Word → Word) (rz rx : BitVec 3) (s : State) :
    imm16op f rz rx s = .next ((s.setReg (slot3 rz) (f (s.reg3 rx))).advance 2) := rfl

/-! ### Amounts and results -/

theorem shiftAmount_eq (v : Word) : shiftAmount v = v.toNat % 64 := BitVec.extractLsb'_toNat 0 6 v

theorem zero_above_31_eq (n : Nat) (r : Word) : (if 31 < n then 0 else r) = if n < 32 then r else 0 := by
  rw [← ite_not]
  exact if_congr (by omega) rfl rfl

theorem lslReg_eq (v w : Word) :
    lslReg v w = if w.toNat % 64 < 32 then v <<< (w.toNat % 64) else 0 := by
  rw [lslReg, shiftAmount_eq, zero_above_31_eq]

theorem lsrReg_eq (v w : Word) :
    lsrReg v w = if w.toNat % 64 < 32 then v >>> (w.toNat % 64) else 0 := by
  rw [lsrReg, shiftAmount_eq, zero_above_31_eq]

/-- From 31 on every bit of the result is the sign: bit 31 itself at 31, and what is shifted in. -/
theorem sshiftRight_eq_sign_of_le {n : Nat} (hn : 31 ≤ n) (v : Word) :
    v.sshiftRight n = if v.msb then 0xFFFFFFFF#32 else 0 := by
  have sign (i : Nat) (hi : i < 32) : (v.sshiftRight n)[i] = v.msb := by
    rw [BitVec.getElem_sshiftRight, BitVec.msb_eq_getLsbD_last]
    split
    case isTrue inside => exact congrArg v.getLsbD (show n + i = 31 by omega)
    case isFalse => rfl
  ext i hi
  rw [sign i hi]
  split
  case isTrue neg => exact neg.trans (BitVec.getElem_allOnes i hi).symm
  case isFalse pos => exact (Bool.eq_false_of_not_eq_true pos).trans (BitVec.getElem_zero hi).symm

theorem asrReg_eq (v w : Word) : asrReg v w = v.sshiftRight (w.toNat % 64) := by
  rw [asrReg, shiftAmount_eq]
  split
  case isTrue above => exact (sshiftRight_eq_sign_of_le above v).symm
  case isFalse => rfl

/-- The two shifts of `rotl` are a rotation as long as the amount is below the width. -/
theorem rotl_eq_rotateLeft {n : Nat} (hn : n < 32) (v : Word) : rotl v n = v.rotateLeft n := by
  rw [rotl, BitVec.rotateLeft_def, Nat.mod_eq_of_lt hn]

theorem rotlReg_eq (v w : Word) :
    rotlReg v w = if w.toNat % 64 < 32 then v.rotateLeft (w.toNat % 64) else 0 := by
  rw [rotlReg, shiftAmount_eq, zero_above_31_eq]
  split
  case isTrue below => exact rotl_eq_rotateLeft below v
  case isFalse => rfl

/-- The amounts of XSR are below 33, so its two shifts are a rotation of the 33 bits. -/
theorem extendedShiftRight_eq_rotateRight {n : Nat} (hn : n < 33) (v : Word) (c : Bool) :
    extendedShiftRight v c n =
      let r := (v ++ BitVec.ofBool c : BitVec 33).rotateRight n
      (r.extractLsb' 1 32, r.getLsbD 0) := by
  rw [BitVec.rotateRight_def, Nat.mod_eq_of_lt hn]
  rfl

theorem biasedAmount_lt (f : BitVec 5) : biasedAmount f < 33 := Nat.succ_lt_succ f.isLt

/-! ### The statements -/

/-- Settles O12: both lengths are one shape each, with the same four functions; these are what the rules say by the `_eq`
lemmas above. -/
theorem shiftRegisterResults : Obligations.ShiftRegisterResults := by
  unfold Obligations.ShiftRegisterResults
  refine ⟨fun s rz rx ry z x y hz hx hy => ?long, fun s rz rx => ?short⟩
  case long =>
    have three (f : Word → Word → Word) {r : Word} (h : f (s.reg x) (s.reg y) = r) :
        alu3 f rz rx ry s = .next ((s.setReg z r).advance 4) := h ▸ alu3_of_slots hz hx hy f
    exact ⟨three lslReg (lslReg_eq _ _), three lsrReg (lsrReg_eq _ _), three asrReg (asrReg_eq _ _),
      three rotlReg (rotlReg_eq _ _)⟩
  case short =>
    have two (f : Word → Word → Word) {r : Word} (h : f (s.reg4 rz) (s.reg4 rx) = r) :
        alu16 f rz rx s = .next ((s.setReg (slot4 s.psr.s rz) r).advance 2) := h ▸ alu16_eq_next f rz rx s
    exact ⟨two lslReg (lslReg_eq _ _), two lsrReg (lsrReg_eq _ _), two asrReg (asrReg_eq _ _),
      two rotlReg (rotlReg_eq _ _)⟩

/-- Settles O13: each is the shape with one source and its shift as the parameter; ROTLI is a rotation because a field of 5
bits is below 32. -/
theorem shiftImmediateResults : Obligations.ShiftImmediateResults := by
  unfold Obligations.ShiftImmediateResults
  refine ⟨fun s rz rx imm5 z x hz hx => ?long, fun s rz rx imm5 => ?short⟩
  case long =>
    have two := alu2_of_slots hz hx
    refine ⟨two (· <<< imm5.toNat), two (· >>> imm5.toNat), two (·.sshiftRight imm5.toNat), ?rotli⟩
    case rotli =>
      rw [← rotl_eq_rotateLeft imm5.isLt]
      exact two (rotl · imm5.toNat)
  case short =>
    have two (f : Word → Word) := imm16op_eq_next f rz rx s
    exact ⟨two (· <<< imm5.toNat), two (· >>> imm5.toNat), two (·.sshiftRight imm5.toNat)⟩

/-- Settles O14: each is the shape that writes C, with the biased field as the amount; XSR is a rotation because that amount
is below 33. -/
theorem carryShiftResults : Obligations.CarryShiftResults := by
  unfold Obligations.CarryShiftResults
  intro s rz rx imm5 z x hz hx
  have withC := alu2c_of_slots hz hx
  refine ⟨withC fun v _ => lslCarry v (biasedAmount imm5), withC fun v _ => lsrCarry v (biasedAmount imm5),
    withC fun v _ => asrCarry v (biasedAmount imm5), ?xsr⟩
  case xsr =>
    have h := withC fun v c => extendedShiftRight v c (biasedAmount imm5)
    rw [extendedShiftRight_eq_rotateRight (biasedAmount_lt imm5)] at h
    exact h

end Sys2Proof.Machine
end

section
/-! The comparisons (43_compare R311 to R318) and the bit test (44_move_bit_extract R352). -/

namespace Sys2Proof.Machine

/-! ### Shapes -/

theorem test1_of_slot {s : State} {rx : BitVec 5} {x : Slot} (hx : s.slotOf rx = some x) (f : Word → Bool)
    {c : Bool} (hc : f (s.reg x) = c) : test1 f rx s = .next ((s.setC c).advance 4) := by
  simp only [test1, withReg_of_slot hx, finish, hc]

theorem test16_of_eq {s : State} {b c : Bool} (hc : b = c) : test16 b s = .next ((s.setC c).advance 2) := hc ▸ rfl

/-! ### What is tested -/

theorem bne_eq_decide_ne (v w : Word) : (v != w) = decide (v ≠ w) := (decide_not (p := v = w)).symm

theorem toNat_zimm {n : Nat} (hn : n ≤ 32) (f : BitVec n) : (zimm f).toNat = f.toNat := BitVec.toNat_setWidth_of_le hn

theorem bne_zimm_eq {n : Nat} (hn : n ≤ 32) (v : Word) (f : BitVec n) :
    (v != zimm f) = decide (v.toNat ≠ f.toNat) := by
  rw [bne_eq_decide_ne, ← toNat_zimm hn f]
  exact decide_eq_decide.mpr BitVec.toNat_inj.not.symm

/-- The bias does not wrap: a field shorter than a word leaves room for it (30_encoding R142). -/
theorem toNat_oimm {n : Nat} (hn : n < 32) (f : BitVec n) : (oimm f).toNat = f.toNat + 1 := by
  have room : 2 ^ n < 2 ^ 32 := Nat.pow_lt_pow_right (by decide) hn
  rw [oimm, BitVec.toNat_ofNat, Nat.mod_eq_of_lt (Nat.lt_of_le_of_lt f.isLt room)]

/-- A biased field of less than 31 bits is not negative as a word. -/
theorem toInt_oimm {n : Nat} (hn : n < 31) (f : BitVec n) : (oimm f).toInt = f.toNat + 1 := by
  have room : 2 ^ n < 2 ^ 31 := Nat.pow_lt_pow_right (by decide) hn
  have value := toNat_oimm (Nat.lt_succ_of_lt hn) f
  rw [BitVec.toInt_eq_toNat_of_lt (by have := f.isLt; omega), value, Nat.cast_succ]

theorem oimm_ule_eq {n : Nat} (hn : n < 32) (v : Word) (f : BitVec n) :
    (oimm f).ule v = decide (f.toNat + 1 ≤ v.toNat) := by
  rw [BitVec.ule_eq_decide, toNat_oimm hn]

theorem slt_oimm_eq {n : Nat} (hn : n < 31) (v : Word) (f : BitVec n) :
    v.slt (oimm f) = decide (v.toInt < f.toNat + 1) := by
  rw [BitVec.slt_eq_decide, toInt_oimm hn]

/-- The model names the bytes from the top, the rule numbers them from the bottom. -/
theorem noZeroByte_eq (v : Word) : noZeroByte v = decide (∀ k : Fin 4, v.extractLsb' (8 * k.val) 8 ≠ 0) := by
  rw [Bool.eq_iff_iff, decide_eq_true_iff]
  simp only [noZeroByte, Bool.and_eq_true, bne_iff_ne]
  constructor
  · rintro ⟨⟨⟨h3, h2⟩, h1⟩, h0⟩ k
    fin_cases k
    exacts [h0, h1, h2, h3]
  · exact fun h => ⟨⟨⟨h 3, h 2⟩, h 1⟩, h 0⟩

/-! ### The statement -/

/-- Settles O15: both lengths are one shape each, which writes only C and the PC; what it writes to C is what the rules say by
the lemmas above and the library's on `ule` and `slt`, and for BTSTI by definition. -/
theorem compareResults : Obligations.CompareResults := by
  unfold Obligations.CompareResults
  refine ⟨fun s rx ry => ?registers, fun s rx imm5 => ?short, fun s rx imm5 imm16 x hx => ?long⟩
  case registers =>
    exact ⟨test16_of_eq (bne_eq_decide_ne _ _), test16_of_eq BitVec.ule_eq_decide, test16_of_eq BitVec.slt_eq_decide,
      test16_of_eq (bne_eq_decide_ne _ _), test16_of_eq (noZeroByte_eq _)⟩
  case short =>
    exact ⟨test16_of_eq (bne_zimm_eq (by decide) _ _), test16_of_eq (oimm_ule_eq (by decide) _ _),
      test16_of_eq (slt_oimm_eq (by decide) _ _), test16_of_eq rfl⟩
  case long =>
    exact ⟨test1_of_slot hx (· != zimm imm16) (bne_zimm_eq (by decide) _ _),
      test1_of_slot hx ((oimm imm16).ule ·) (oimm_ule_eq (by decide) _ _),
      test1_of_slot hx (·.slt (oimm imm16)) (slt_oimm_eq (by decide) _ _),
      test1_of_slot hx (·.getLsbD imm5.toNat) rfl⟩

end Sys2Proof.Machine
end

section
/-! Moves, single bits, extracts and find-first (44_move_bit_extract R341 to R366). -/

namespace Sys2Proof.Machine

/-! ### Shapes -/

theorem alu1_of_slot {s : State} {rz : BitVec 5} {z : Slot} (hz : s.slotOf rz = some z) {v w : Word} (h : v = w) :
    alu1 v rz s = .next ((s.setReg z w).advance 4) := by
  simp only [alu1, withReg_of_slot hz, finish, h]

theorem unary16_of_eq (f : Word → Word) {s : State} {rx : BitVec 4} {w : Word} (h : f (s.reg4 rx) = w) (rz : BitVec 4) :
    unary16 f rz rx s = .next ((s.setReg (slot4 s.psr.s rz) w).advance 2) := h ▸ rfl

theorem put16_of_eq {v w : Word} (h : v = w) (z : Slot) (s : State) :
    put16 z v s = .next ((s.setReg z w).advance 2) := h ▸ rfl

/-! ### The first bit that differs -/

theorem leadingRun_le (b : Bool) (v : Word) (n : Nat) : leadingRun b v n ≤ n := by
  induction n with
  | zero => exact Nat.le_refl 0
  | succ n ih =>
    rw [leadingRun]
    split
    case isTrue => exact Nat.succ_le_succ ih
    case isFalse => exact Nat.zero_le _

theorem getLsbD_of_lt_leadingRun {b : Bool} {v : Word} {n k : Nat} (hk : k < leadingRun b v n) :
    v.getLsbD (n - 1 - k) = b := by
  induction n generalizing k with
  | zero => exact absurd hk (Nat.not_lt_zero k)
  | succ n ih =>
    rw [leadingRun] at hk
    split at hk
    case isTrue top =>
      cases k with
      | zero => exact top
      | succ k =>
        rw [show n + 1 - 1 - (k + 1) = n - 1 - k by omega]
        exact ih (Nat.lt_of_succ_lt_succ hk)
    case isFalse => exact absurd hk (Nat.not_lt_zero k)

/-- A run that stops before the end stops at a bit that is not `b`. -/
theorem getLsbD_leadingRun {b : Bool} {v : Word} {n : Nat} (hn : leadingRun b v n < n) :
    v.getLsbD (n - 1 - leadingRun b v n) = !b := by
  induction n with
  | zero => exact absurd hn (Nat.not_lt_zero _)
  | succ n ih =>
    rw [leadingRun] at hn ⊢
    split
    case isTrue top =>
      rw [if_pos top] at hn
      rw [show n + 1 - 1 - (leadingRun b v n + 1) = n - 1 - leadingRun b v n by omega]
      exact ih (Nat.lt_of_succ_lt_succ hn)
    case isFalse top => exact Bool.eq_not_of_ne top

/-- Settles O18: both instructions are the shape with one source; the count is the run of leading bits equal to `b`, over all
32 bits. -/
theorem findFirstResults : Obligations.FindFirstResults := by
  unfold Obligations.FindFirstResults
  intro s rz rx z x b hz hx
  refine ⟨leadingRun b (s.reg x) 32, leadingRun_le _ _ _, fun _ => getLsbD_of_lt_leadingRun, getLsbD_leadingRun, ?_⟩
  cases b
  case true => exact alu2_of_slots hz hx findFirst0
  case false => exact alu2_of_slots hz hx findFirst1

/-! ### Moves and single bits -/

theorem shiftLeft_sixteen_eq_append (f : BitVec 16) : zimm f <<< 16 = f ++ 0#16 := by
  rw [BitVec.append_def, BitVec.shiftLeftZeroExtend_eq]
  exact BitVec.or_zero.symm

theorem zeroExtend_ofBool (c : Bool) : (BitVec.ofBool c).zeroExtend 32 = if c then 1 else 0 := by cases c <;> rfl

theorem zeroExtend_ofBool_not (c : Bool) : (BitVec.ofBool (!c)).zeroExtend 32 = if c then 0 else 1 := by cases c <;> rfl

/-- Outside the excluded fields BMASKI writes its mask (44_move_bit_extract R353). -/
theorem exec_bmaski32_of_le {imm5 : BitVec 5} (h : 16 ≤ imm5.toNat) (rz : BitVec 5) (s : State) :
    exec (.bmaski32 rz imm5) s = alu1 (maskTo imm5) rz s := if_neg (Nat.not_lt.mpr h)

/-- Settles O16: each is one of the shapes; the single bit of BCLRI and BSETI is `BitVec.twoPow` by definition, and `maskTo` is
the mask BMASKI has to write. -/
theorem moveBitResults : Obligations.MoveBitResults := by
  unfold Obligations.MoveBitResults
  refine ⟨fun s rz rx imm5 imm16 z x hz hx => ?long, fun s rz rx => ?short, fun s rz imm5 imm8 => ?low⟩
  case long =>
    have two := alu2_of_slots hz hx
    exact ⟨alu1_of_slot hz rfl, alu1_of_slot hz (shiftLeft_sixteen_eq_append imm16), alu1_of_slot hz (zeroExtend_ofBool _),
      two (· &&& ~~~BitVec.twoPow 32 imm5.toNat), two (· ||| BitVec.twoPow 32 imm5.toNat),
      fun inRange => (exec_bmaski32_of_le inRange rz s).trans (alu1_of_slot hz rfl)⟩
  case short =>
    exact ⟨unary16_of_eq (fun v => v) rfl rz, put16_of_eq (zeroExtend_ofBool_not _) _ s⟩
  case low =>
    have one (f : Word → Word) := imm16op_eq_next f rz rz s
    exact ⟨put16_of_eq rfl (slot3 rz) s, one (· &&& ~~~BitVec.twoPow 32 imm5.toNat), one (· ||| BitVec.twoPow 32 imm5.toNat)⟩

/-! ### Extracts -/

/-- The bits from `lo` on are a quotient, and the lowest `n` of them its remainder. -/
theorem toNat_extractLsb'_eq_div_mod (v : Word) (lo n : Nat) : (v.extractLsb' lo n).toNat = v.toNat / 2 ^ lo % 2 ^ n := by
  rw [BitVec.extractLsb'_toNat, Nat.shiftRight_eq_div_pow]

theorem zeroExtend_extractLsb' (v : Word) (lo n : Nat) :
    (v.extractLsb' lo n).zeroExtend 32 = BitVec.ofNat 32 (v.toNat / 2 ^ lo % 2 ^ n) := by
  rw [← toNat_extractLsb'_eq_div_mod]
  exact zimm_eq_ofNat _

theorem zeroExtend_low_eq (v : Word) (n : Nat) :
    (v.extractLsb' 0 n).zeroExtend 32 = BitVec.ofNat 32 (v.toNat % 2 ^ n) := by
  rw [zeroExtend_extractLsb', Nat.pow_zero, Nat.div_one]

theorem signExtend_low_eq (v : Word) {n : Nat} (hn : n ≤ 32) :
    (v.extractLsb' 0 n).signExtend 32 = (v.truncate n).signExtend 32 :=
  congrArg (BitVec.signExtend 32) (BitVec.setWidth_eq_extractLsb' hn).symm

theorem byte_bne_zero_eq (b : Byte) : (b != 0) = decide (b.toNat ≠ 0) :=
  decide_not.symm.trans (decide_eq_decide.mpr BitVec.toNat_inj.not.symm)

theorem extractByte_eq (v : Word) (lo : Nat) :
    extractByte v lo =
      let byte := v.toNat / 2 ^ lo % 2 ^ 8
      (BitVec.ofNat 32 byte, decide (byte ≠ 0)) := by
  rw [extractByte, zeroExtend_extractLsb', byte_bne_zero_eq, toNat_extractLsb'_eq_div_mod]

/-- The bytes of four bytes put together, numbered from the bottom. -/
theorem extractByte_append (b0 b1 b2 b3 : Byte) (k : Fin 4) :
    (b3 ++ b2 ++ b1 ++ b0 : Word).extractLsb' (8 * k.val) 8 = [b0, b1, b2, b3].get k := by
  fin_cases k
  · exact BitVec.extractLsb'_append_eq_right
  · rw [BitVec.extractLsb'_append_eq_of_le (by decide)]
    exact BitVec.extractLsb'_append_eq_right
  · rw [BitVec.extractLsb'_append_eq_of_le (by decide), BitVec.extractLsb'_append_eq_of_le (by decide)]
    exact BitVec.extractLsb'_append_eq_right
  · rw [BitVec.extractLsb'_append_eq_of_le (by decide), BitVec.extractLsb'_append_eq_of_le (by decide)]
    exact BitVec.extractLsb'_append_eq_left

theorem extractByte_revBytes (v : Word) (k : Fin 4) :
    (revBytes v).extractLsb' (8 * k.val) 8 = v.extractLsb' (8 * (3 - k.val)) 8 := by
  rw [revBytes, extractByte_append]
  fin_cases k <;> rfl

theorem extractByte_revHalves (v : Word) (k : Fin 4) :
    (revHalves v).extractLsb' (8 * k.val) 8 = v.extractLsb' (8 * (k.val ^^^ 1)) 8 := by
  rw [revHalves, extractByte_append]
  fin_cases k <;> rfl

/-- Settles O17: the 16-bit forms are one shape; XTRB is the shape that writes C, with the byte's lowest bit at 24, 16, 8
and 0. -/
theorem extractResults : Obligations.ExtractResults := by
  unfold Obligations.ExtractResults
  refine ⟨?short, ?long⟩
  case short =>
    intro s rz rx v
    have one (f : Word → Word) {r : Word} (h : f v = r) := unary16_of_eq f h rz
    exact ⟨one (fun v => (v.extractLsb' 0 8).zeroExtend 32) (zeroExtend_low_eq v 8),
      one (fun v => (v.extractLsb' 0 16).zeroExtend 32) (zeroExtend_low_eq v 16),
      one (fun v => (v.extractLsb' 0 8).signExtend 32) (signExtend_low_eq v (by decide)),
      one (fun v => (v.extractLsb' 0 16).signExtend 32) (signExtend_low_eq v (by decide)),
      ⟨revBytes v, extractByte_revBytes v, one revBytes rfl⟩, ⟨revHalves v, extractByte_revHalves v, one revHalves rfl⟩⟩
  case long =>
    intro s rz rx z x hz hx byte after
    have extract (k : Nat) : alu2c (fun v _ => extractByte v (8 * (3 - k))) rz rx s = .next (after k) := by
      have h := alu2c_of_slots hz hx fun v _ => extractByte v (8 * (3 - k))
      rw [extractByte_eq] at h
      exact h
    exact ⟨extract 0, extract 1, extract 2, extract 3⟩

end Sys2Proof.Machine
end

section
/-! The branches and jumps (45_branch R400 to R409). -/

namespace Sys2Proof.Machine

/-! ### Targets -/

theorem msb_append_zero {k : Nat} (f : BitVec k) : (f ++ 0#1).msb = f.msb := by
  cases k with
  | zero => rw [BitVec.of_length_zero (x := f)]; rfl
  | succ k => exact BitVec.msb_append

/-- Sign-extending the shifted field doubles the sign-extended one: above a lowest bit 0, both show the field, then its sign. -/
theorem branchOffset_eq {k : Nat} (f : BitVec k) : branchOffset f = 2 * f.signExtend 32 := by
  rw [← shiftLeft_one_eq]
  ext i hi
  cases i with
  | zero => simp [branchOffset, BitVec.getElem_signExtend, BitVec.getElem_append]
  | succ i => simp [branchOffset, BitVec.getElem_signExtend, BitVec.getElem_append, msb_append_zero]

/-- The scaled low byte of a register as a number (R409). -/
theorem lowByte_mul_jmpixMultiplier (v : Word) (f : BitVec 2) :
    zimm (v.extractLsb' 0 8) * jmpixMultiplier f = BitVec.ofNat 32 (v.toNat % 256 * (16 + 8 * f.toNat)) := by
  rw [BitVec.ofNat_mul, BitVec.ofNat_add, BitVec.ofNat_mul, ← zimm_eq_ofNat f]
  exact congrArg (· * jmpixMultiplier f) (zeroExtend_low_eq v 8)

/-! ### Shapes -/

theorem branchIf_eq {k : Nat} (c : Bool) (f : BitVec k) (n : Word) (s : State) :
    branchIf c f n s = .next (if c then s.setPc (s.pc + 2 * f.signExtend 32) else s.advance n) := by
  rw [branchIf, branchOffset_eq]
  cases c <;> rfl

theorem bctmOnly_of_bctm {s : State} (h : s.cfg.hasBctm = true) (k : Outcome) : bctmOnly s k = k := if_pos h

/-! ### The statement -/

/-- Settles O19: the branches are one shape, on C, its complement or `true`; every jump and link is what the model writes, by
definition, once its target is the number that the rules say. -/
theorem branchResults : Obligations.BranchResults := by
  unfold Obligations.BranchResults
  refine ⟨fun s d e f => ?branches, fun s rx => ⟨rfl, rfl⟩, fun s rx imm2 hb => ?jmpix⟩
  case branches =>
    intro jump
    have short (c : Bool) := branchIf_eq c d 2 s
    have long (c : Bool) := branchIf_eq c e 4 s
    refine ⟨short true, long true, short s.psr.c, long s.psr.c, ?bf16, ?bf32, ?bsr⟩
    case bf16 => exact (short (!s.psr.c)).trans (by cases s.psr.c <;> rfl)
    case bf32 => exact (long (!s.psr.c)).trans (by cases s.psr.c <;> rfl)
    case bsr =>
      show finishAt (s.pc + branchOffset f) (s.setReg slotLr (s.pc + 4)) = _
      rw [branchOffset_eq]
      rfl
  case jmpix =>
    rw [← lowByte_mul_jmpixMultiplier]
    exact bctmOnly_of_bctm hb _

end Sys2Proof.Machine
end

section
/-! SUPPORT. What a permitted data access answers, and the scaled offsets of loads and stores as numbers (20_memory R95, R96;
30_encoding R142). -/

namespace Sys2Proof.Machine

theorem readData_of_permits {s : State} {multi : Bool} {a b : Word} {w : Width}
    (hb : effectiveAddress s multi a w = some b)
    (h : Permits s .read s.psr.s (byteAddresses b w.bytes) (busReadAddresses b w)) :
    readData multi s a w = .done (s.mem.load s.cfg.bigEndian b w) := by
  simp only [readData, hb, checkAccess_of_permits h]

theorem writeData_of_permits {s : State} {multi : Bool} {a b : Word} {w : Width}
    (hb : effectiveAddress s multi a w = some b)
    (h : Permits s .write s.psr.s (byteAddresses b w.bytes) (byteAddresses b w.bytes)) (v : Word) :
    writeData multi s a w v = .done (storeState s b w v) := by
  simp only [writeData, hb, checkAccess_of_permits h]

/-- An offset that is not scaled (30_encoding R142). -/
theorem scaled_zero_eq_ofNat {n : Nat} (f : BitVec n) : scaled f 0 = BitVec.ofNat 32 f.toNat := by
  rw [scaled, BitVec.shiftLeft_zero]
  exact zimm_eq_ofNat f

/-- An offset scaled by 2 (30_encoding R142). -/
theorem scaled_one_eq_ofNat {n : Nat} (f : BitVec n) : scaled f 1 = BitVec.ofNat 32 (2 * f.toNat) := by
  apply BitVec.eq_of_toNat_eq
  simp [scaled, Nat.shiftLeft_eq, Nat.mul_comm]

end Sys2Proof.Machine
end

section
/-! Loads and stores of one register (46_loadstore R430 to R442), the literal loads (44_move_bit_extract R348), and the
translation stack (46_loadstore R470 to R475): one access each, and where its value or its state goes. Without the translation
mechanism its instructions are illegal (92 D7). -/

namespace Sys2Proof.Machine

/-! ### Shapes -/

section Shapes

variable {s : State} {a b : Word} {w : Width}

theorem readData_andThen (h : CanRead s a w b) (k : Word → Outcome) :
    (readData false s a w).andThen s k = k (s.mem.load s.cfg.bigEndian b w) := by
  rw [readData_of_permits h.1 h.2]; rfl

theorem writeData_andThen (h : CanWrite s a w b) (v : Word) (k : State → Outcome) :
    (writeData false s a w v).andThen s k = k (storeState s b w v) := by
  rw [writeData_of_permits h.1 h.2]; rfl

theorem load16_of_canRead (h : CanRead s a w b) (rz : BitVec 3) :
    load16 w rz a s = .next ((s.setReg (slot3 rz) (s.mem.load s.cfg.bigEndian b w)).advance 2) := readData_andThen h _

theorem store16_of_canWrite (h : CanWrite s a w b) (rz : BitVec 3) :
    store16 w rz a s = .next ((storeState s b w (s.reg3 rz)).advance 2) := writeData_andThen h _ _

variable {rz rx : BitVec 5} {z x : Slot} (hz : s.slotOf rz = some z) (hx : s.slotOf rx = some x) {o : BitVec 12}

include hz hx

theorem load32_of_canRead (h : CanRead s (s.reg x + scaled o w.shift) w b) (ext : Word → Word) :
    load32 w ext rz rx o s = .next ((s.setReg z (ext (s.mem.load s.cfg.bigEndian b w))).advance 4) := by
  rw [load32, withReg_of_slot hx, withReg_of_slot hz]
  exact readData_andThen h _

theorem store32_of_canWrite (h : CanWrite s (s.reg x + scaled o w.shift) w b) :
    store32 w rz rx o s = .next ((storeState s b w (s.reg z)).advance 4) := by
  rw [store32, withReg_of_slot hx, withReg_of_slot hz]
  exact writeData_andThen h _ _

end Shapes

/-! ### The statements -/

/-- Settles O20: each load is one shape; the sign-extending ones put the low byte or halfword into it. -/
theorem loadResults : Obligations.LoadResults := by
  unfold Obligations.LoadResults
  intro s rz rx imm12 z x b hz hx
  rw [← scaled_zero_eq_ofNat, ← scaled_one_eq_ofNat, ← scaled_two_eq_ofNat, ← signExtend_low_eq _ (by decide),
    ← signExtend_low_eq _ (by decide)]
  have load (w : Width) := load32_of_canRead (w := w) hz hx (o := imm12) (b := b)
  exact ⟨fun h => ⟨load .byte h fun v => v, load .byte h (signed .byte)⟩,
    fun h => ⟨load .half h fun v => v, load .half h (signed .half)⟩, fun h => load .word h fun v => v⟩

/-- Settles O21: each load is one shape, at its own address. -/
theorem shortLoadResults : Obligations.ShortLoadResults := by
  unfold Obligations.ShortLoadResults
  refine ⟨fun s rz rx imm5 b => ?_, fun s rz imm8 b => ?_, fun s rz imm16 z b hz h => ?lrw32⟩
  · rw [← scaled_zero_eq_ofNat, ← scaled_one_eq_ofNat, ← scaled_two_eq_ofNat]
    exact ⟨fun h => load16_of_canRead h rz, fun h => load16_of_canRead h rz, fun h => load16_of_canRead h rz⟩
  · rw [← scaled_two_eq_ofNat]
    exact ⟨fun h => load16_of_canRead h rz, fun h => load16_of_canRead h rz⟩
  case lrw32 =>
    rw [← scaled_two_eq_ofNat] at h
    show execLrw32 rz imm16 s = _
    rw [execLrw32, withReg_of_slot hz]
    exact readData_andThen h _

/-- Settles O22: each store is one shape, at its own address. -/
theorem storeResults : Obligations.StoreResults := by
  unfold Obligations.StoreResults
  refine ⟨fun s rz rx imm12 z x b hz hx => ?long, fun s rz rx imm5 imm8 b => ?short⟩
  case long =>
    rw [← scaled_zero_eq_ofNat, ← scaled_one_eq_ofNat, ← scaled_two_eq_ofNat]
    have store (w : Width) := store32_of_canWrite (w := w) hz hx (o := imm12) (b := b)
    exact ⟨store .byte, store .half, store .word⟩
  case short =>
    rw [← scaled_zero_eq_ofNat, ← scaled_one_eq_ofNat, ← scaled_two_eq_ofNat, ← scaled_two_eq_ofNat]
    exact ⟨fun h => store16_of_canWrite h rz, fun h => store16_of_canWrite h rz, fun h => store16_of_canWrite h rz,
      fun h => store16_of_canWrite h rz⟩

/-! ### The translation mechanism -/

section TranslationStack

variable {s : State} (hb : s.cfg.hasBctm = true)

include hb

/-- BPUSH beyond TOP and within it (R470 to R472). -/
theorem bpush_of_bctm (w : Width) (rz : BitVec 3) (b : Word) :
    if (s.reg slotTop).toNat < (s.reg slotBsp).toNat + w.bytes then bpush w rz s = stackOverflow s
    else CanWrite s (s.reg slotBsp) w b → bpush w rz s =
      .next (((storeState s b w (s.reg3 rz)).setReg slotBsp (s.reg slotBsp + BitVec.ofNat 32 w.bytes)).advance 2) := by
  rw [bpush, bctmOnly_of_bctm hb]
  split
  case isTrue => rfl
  case isFalse => exact fun h => writeData_andThen h _ _

/-- BPOP below FP' and within it (R470, R473, R474). -/
theorem bpop_of_bctm (w : Width) (rz : BitVec 3) (b : Word) :
    let bsp := s.reg slotBsp - BitVec.ofNat 32 w.bytes
    if (s.reg slotBsp).toNat < (s.reg slotFp).toNat + w.bytes then bpop w rz s = stackOverflow s
    else CanRead s bsp w b → bpop w rz s =
      .next (((s.setReg (slot3 rz) (s.mem.load s.cfg.bigEndian b w)).setReg slotBsp bsp).advance 2) := by
  dsimp only
  rw [bpop, bctmOnly_of_bctm hb]
  split
  case isTrue => rfl
  case isFalse => exact fun h => readData_andThen h _

end TranslationStack

/-- Settles O27: BPUSH and BPOP of a halfword and of a word are one shape each. -/
theorem translationStackResults : Obligations.TranslationStackResults := by
  unfold Obligations.TranslationStackResults
  intro s rz b hb bsp overflow
  exact ⟨bpush_of_bctm hb .half rz b, bpush_of_bctm hb .word rz b, bpop_of_bctm hb .half rz b, bpop_of_bctm hb .word rz b⟩

theorem bctmOnly_of_noBctm {s : State} (h : s.cfg.hasBctm = false) (k : Outcome) :
    bctmOnly s k = takeException .illegal s := by
  rw [bctmOnly, h]; rfl

/-- Every instruction of the translation mechanism asks for it first (92 D7). -/
theorem exec_of_noBctm {i : Instr} {s : State} (hi : needsBctm i = true) (h : s.cfg.hasBctm = false) :
    exec i s = takeException .illegal s := by
  cases i
  case bmset32 | bmclr32 | jmpix16 | bpush16h | bpush16w | bpop16h | bpop16w => exact bctmOnly_of_noBctm h _
  all_goals cases hi

/-- Settles O44: the mechanism is asked for before anything else is done. -/
theorem withoutTranslation : Obligations.WithoutTranslation := by
  unfold Obligations.WithoutTranslation
  intro i s hi h
  rw [exec_of_noBctm hi h]
  exact traps_takeException .illegal s

end Sys2Proof.Machine
end

section
/-! SUPPORT. Rows of words: their addresses, their alignment and their bytes (46_loadstore R445), and that the lists of the
instructions that transfer several words name no register twice (R446, R455, R458). -/

namespace Sys2Proof.Machine

/-! ### Addresses -/

@[simp] theorem wordAt_zero (a : Word) : wordAt a 0 = a := BitVec.add_zero a

theorem wordAt_add (a : Word) (j k : Nat) : wordAt a (j + k) = wordAt (wordAt a j) k := by
  rw [wordAt, wordAt, wordAt, Nat.mul_add, BitVec.ofNat_add, BitVec.add_assoc]

theorem aligned_wordAt (a : Word) (k : Nat) : aligned (wordAt a k) .word = aligned a .word := by
  rw [Bool.eq_iff_iff, aligned_iff, aligned_iff, wordAt, BitVec.toNat_add, BitVec.toNat_ofNat, Width.bytes]
  omega

/-! ### Rows -/

section Rows

variable {α : Type}

@[simp] theorem wordsFrom_length (a : Word) (l : List α) : (wordsFrom a l).length = l.length := by
  rw [← List.length_map Prod.snd, wordsFrom_snd]

theorem wordsFrom_append (a : Word) (l l' : List α) :
    wordsFrom a (l ++ l') = wordsFrom a l ++ wordsFrom (wordAt a l.length) l' := by
  induction l generalizing a with
  | nil => rw [List.length_nil, wordAt_zero]; rfl
  | cons x l ih => rw [List.length_cons, Nat.add_comm, wordAt_add, List.cons_append, wordsFrom, ih]; rfl

/-- The words before the `n`-th, the `n`-th, and the words after it. -/
theorem wordsFrom_split (a : Word) {l : List α} {n : Nat} (h : n < l.length) :
    wordsFrom a l =
      wordsFrom a (l.take n) ++ (wordAt a n, l[n]) :: wordsFrom (wordAt a (n + 1)) (l.drop (n + 1)) := by
  conv_lhs => rw [← List.take_append_drop n l, List.drop_eq_getElem_cons h, wordsFrom_append,
    List.length_take_of_le h.le, wordsFrom]
  rw [wordAt_add]
  rfl

theorem getElem_wordsFrom (a : Word) {l : List α} {k : Nat} (h : k < l.length) :
    (wordsFrom a l)[k]'((wordsFrom_length a l).symm ▸ h) = (wordAt a k, l[k]) := by
  simp only [wordsFrom_split a h, List.getElem_append_right, wordsFrom_length, List.length_take_of_le h.le, le_refl,
    Nat.sub_self, List.getElem_cons_zero]

theorem mem_wordsFrom {a : Word} {l : List α} {p : Word × α} :
    p ∈ wordsFrom a l ↔ ∃ (k : Nat) (h : k < l.length), (wordAt a k, l[k]) = p := by
  rw [List.mem_iff_getElem]
  constructor
  · rintro ⟨k, h, rfl⟩
    rw [wordsFrom_length] at h
    exact ⟨k, h, (getElem_wordsFrom a h).symm⟩
  · rintro ⟨k, h, rfl⟩
    exact ⟨k, (wordsFrom_length a l).symm ▸ h, getElem_wordsFrom a h⟩

theorem forall_mem_wordsFrom {P : Word → Prop} {a : Word} {l : List α} (h : ∀ k < l.length, P (wordAt a k)) :
    ∀ p ∈ wordsFrom a l, P p.1 := by
  intro p hp
  obtain ⟨k, hk, rfl⟩ := mem_wordsFrom.mp hp
  exact h k hk

end Rows

/-! ### Bytes -/

theorem exists_of_mem_byteAddresses {a c : Word} {n : Nat} (h : c ∈ byteAddresses a n) :
    ∃ k < n, c = a + BitVec.ofNat 32 k := by
  induction n generalizing a with
  | zero => cases h
  | succ n ih =>
    rcases List.mem_cons.mp h with rfl | h
    · exact ⟨0, n.succ_pos, (BitVec.add_zero _).symm⟩
    · obtain ⟨k, hk, rfl⟩ := ih h
      exact ⟨k + 1, Nat.succ_lt_succ hk, by rw [Nat.add_comm k, BitVec.ofNat_add, BitVec.add_assoc]; rfl⟩

/-- Bytes from an address on are different bytes as long as the addresses do not come round (92 D4). -/
theorem nodup_byteAddresses (a : Word) {n : Nat} (h : n ≤ 2 ^ 32) : (byteAddresses a n).Nodup := by
  induction n generalizing a with
  | zero => exact List.nodup_nil
  | succ n ih =>
    refine List.nodup_cons.mpr ⟨fun hmem => ?_, ih (a + 1) (n.le_succ.trans h)⟩
    obtain ⟨k, hk, heq⟩ := exists_of_mem_byteAddresses hmem
    rw [BitVec.add_assoc, left_eq_add, show (1 : Word) = 1#32 from rfl, ← BitVec.ofNat_add] at heq
    have round := congrArg BitVec.toNat heq
    rw [BitVec.toNat_ofNat, Nat.mod_eq_of_lt (by omega)] at round
    exact absurd round (by simp)

/-- A load sees the bytes of its own addresses only. -/
theorem Memory.load_congr (big : Bool) {m m' : Memory} {a : Word} {w : Width}
    (h : ∀ c ∈ byteAddresses a w.bytes, m.read c = m'.read c) : m.load big a w = m'.load big a w := by
  rw [Memory.load, Memory.load, List.map_congr_left h]

theorem Memory.load_store_word (big : Bool) {m : Memory} (h : m.wf) (a v : Word) :
    (m.store big a .word v).load big a .word = v := by
  rw [Memory.load_store big m a .word v h]
  exact assemble_disassemble_four v

/-! ### Lists of registers -/

theorem slot4_injective (supervisor : Bool) : Function.Injective (slot4 supervisor) := by
  have distinct : ∀ (b : Bool) (m n : BitVec 4), slot4 b m = slot4 b n → m = n := by decide
  exact fun m n h => distinct supervisor m n h

/-- The list of an LDM or STM that does not run past R15 (46_loadstore R446). -/
theorem ldmList_nodup (supervisor : Bool) {ry imm5 : BitVec 5} (h : ry.toNat + imm5.toNat ≤ 15) :
    ((List.range (imm5.toNat + 1)).map fun k => slot4 supervisor (BitVec.ofNat 4 (ry.toNat + k))).Nodup := by
  refine List.Nodup.map_on (fun j hj k hk heq => ?_) List.nodup_range
  rw [List.mem_range] at hj hk
  have fields := congrArg BitVec.toNat (slot4_injective supervisor heq)
  rw [BitVec.toNat_ofNat, BitVec.toNat_ofNat, Nat.mod_eq_of_lt (by omega), Nat.mod_eq_of_lt (by omega)] at fields
  omega

theorem pushPopList_nodup (r15 : BitVec 1) (list1 : BitVec 4) : (pushPopList r15 list1).Nodup := by
  have distinct : ∀ (b : BitVec 1) (n : BitVec 4), (pushPopList b n).Nodup := by decide
  exact distinct r15 list1

theorem slotSp_notMem_pushPopList (supervisor : Bool) (r15 : BitVec 1) (list1 : BitVec 4) :
    slotSp supervisor ∉ pushPopList r15 list1 := by
  have apart : ∀ (b : Bool) (c : BitVec 1) (n : BitVec 4), slotSp b ∉ pushPopList c n := by decide
  exact apart supervisor r15 list1

theorem slotSp_notMem_interruptList (supervisor : Bool) : slotSp supervisor ∉ interruptList := by
  cases supervisor <;> decide

/-- The list of PUSH and POP in the words of R455: R4 up to R(3 + LIST1), then R15 if asked for. -/
theorem filter_eq_pushPopList (r15 : BitVec 1) {list1 : BitVec 4} (h : list1.toNat ≤ 8) :
    ((List.finRange 21).filter fun r => 4 ≤ r.val ∧ r.val < 4 + list1.toNat ∨ r15 = 1 ∧ r = slotLr) =
      pushPopList r15 list1 := by
  have same : ∀ (b : BitVec 1) (n : BitVec 4), n.toNat ≤ 8 →
      ((List.finRange 21).filter fun r => 4 ≤ r.val ∧ r.val < 4 + n.toNat ∨ b = 1 ∧ r = slotLr) = pushPopList b n := by
    decide
  exact same r15 list1 h

/-- There are 21 registers. -/
theorem length_le_of_nodup {l : List Slot} (h : l.Nodup) : l.length ≤ 21 := by
  simpa using h.length_le_card

end Sys2Proof.Machine
end

section
/-! SUPPORT. Transfers of several words (46_loadstore R445): what is left when the words of a list have been transferred, that
a transfer comes to its next word in the state that the words before leave, and how it stops there (60_exceptions R633). -/

namespace Sys2Proof.Machine

/-! ### What a transfer does not change -/

/-- `u` is `s` with other registers and another memory: whatever permits, denies or interrupts a transfer is the same. -/
def SameSettings (s u : State) : Prop :=
  ∃ g n m w, u = { s with gpr := g, freeCount := n, mem := m, written := w }

section SameSettings

variable {s u : State}

theorem OnlyRegs.sameSettings {l : List Slot} (h : OnlyRegs l s u) : SameSettings s u := by
  obtain ⟨g, n, rfl, -⟩ := h
  exact ⟨g, n, s.mem, s.written, rfl⟩

theorem OnlyBytes.sameSettings {l : List Word} (h : OnlyBytes l s u) : SameSettings s u := by
  obtain ⟨m, w, rfl, -⟩ := h
  exact ⟨s.gpr, s.freeCount, m, w, rfl⟩

theorem SameSettings.pc (h : SameSettings s u) : u.pc = s.pc := by obtain ⟨g, n, m, w, rfl⟩ := h; rfl

theorem SameSettings.interruptAfter (h : SameSettings s u) (n : Nat) : u.interruptAfter n = s.interruptAfter n := by
  obtain ⟨g, n, m, w, rfl⟩ := h; rfl

theorem SameSettings.canReadWord (h : SameSettings s u) {a : Word} (hr : CanReadWord s a) : CanReadWord u a := by
  obtain ⟨g, n, m, w, rfl⟩ := h; exact hr

theorem SameSettings.canWriteWord (h : SameSettings s u) {a : Word} (hw : CanWriteWord s a) : CanWriteWord u a := by
  obtain ⟨g, n, m, w, rfl⟩ := h; exact hw

theorem SameSettings.denies (h : SameSettings s u) {kind : AccessKind} {bytes bus : List Word}
    (hd : Denies s kind s.psr.s bytes bus) : Denies u kind u.psr.s bytes bus := by
  obtain ⟨g, n, m, w, rfl⟩ := h; exact hd

end SameSettings

/-! ### Loading -/

/-- The state when one word has been loaded; the register `lost` receives a free value (46_loadstore R446, log 21). -/
def State.loadWord (lost : Option Slot) (s : State) (p : Word × Slot) : State :=
  if lost = some p.2 then { s.setReg p.2 (s.freeWord 0) with freeCount := s.freeCount + 1 }
  else s.setReg p.2 (s.mem.load s.cfg.bigEndian p.1 .word)

/-- The state when the words of a list have been loaded. -/
def State.loadAll (lost : Option Slot) (s : State) (l : List (Word × Slot)) : State := l.foldl (State.loadWord lost) s

/-- `u` is `s` with the words of `l` loaded: no other register is written, and free values are drawn only for `lost`. -/
structure Loaded (lost : Option Slot) (l : List (Word × Slot)) (s u : State) : Prop where
  onlyRegs : OnlyRegs (l.map Prod.snd) s u
  value : ∀ p ∈ l, lost ≠ some p.2 → u.reg p.2 = s.mem.load s.cfg.bigEndian p.1 .word
  freeCount : lost = none → u.freeCount = s.freeCount

theorem loadWord_loaded (lost : Option Slot) (s : State) (p : Word × Slot) : Loaded lost [p] s (s.loadWord lost p) := by
  rw [State.loadWord]
  split
  case isTrue h =>
    refine ⟨⟨_, s.freeCount + 1, rfl, fun r hr => ?_⟩, fun q hq hne => ?_, fun hnone => ?_⟩
    · exact reg_setReg_ne s _ (List.ne_of_not_mem_cons hr)
    · exact absurd (List.mem_singleton.mp hq ▸ h) hne
    · rw [hnone] at h; cases h
  case isFalse h =>
    refine ⟨⟨_, s.freeCount, rfl, fun r hr => ?_⟩, fun q hq _ => ?_, fun _ => rfl⟩
    · exact reg_setReg_ne s _ (List.ne_of_not_mem_cons hr)
    · rw [List.mem_singleton.mp hq, reg_setReg_same]

/-- One word, then others into other registers. -/
theorem Loaded.cons {lost : Option Slot} {p : Word × Slot} {l : List (Word × Slot)} {s t u : State}
    (h : Loaded lost [p] s t) (hl : Loaded lost l t u) (hp : p.2 ∉ l.map Prod.snd) : Loaded lost (p :: l) s u := by
  obtain ⟨⟨g, k, rfl, hkeep⟩, hvalue, hfree⟩ := h
  obtain ⟨⟨g', k', rfl, hkeep'⟩, hvalue', hfree'⟩ := hl
  refine ⟨⟨g', k', rfl, fun r hr => ?_⟩, fun q hq hne => ?_, fun hnone => (hfree' hnone).trans (hfree hnone)⟩
  · rw [List.map_cons, List.mem_cons, not_or] at hr
    exact (hkeep' r hr.2).trans (hkeep r (by simpa using hr.1))
  · rcases List.mem_cons.mp hq with rfl | hq
    · exact (hkeep' q.2 hp).trans (hvalue q List.mem_cons_self hne)
    · exact hvalue' q hq hne

theorem loadAll_loaded (lost : Option Slot) {l : List (Word × Slot)} (h : (l.map Prod.snd).Nodup) (s : State) :
    Loaded lost l s (s.loadAll lost l) := by
  induction l generalizing s with
  | nil => exact ⟨onlyRegs_refl _ s, fun p hp => absurd hp List.not_mem_nil, fun _ => rfl⟩
  | cons p l ih =>
    rw [List.map_cons, List.nodup_cons] at h
    exact (loadWord_loaded lost s p).cons (ih h.2 _) h.1

theorem busReadAddresses_of_aligned {a : Word} {w : Width} (h : aligned a w = true) :
    busReadAddresses a w = byteAddresses a w.bytes := if_pos h

theorem readData_of_canReadWord {s : State} {a : Word} (h : CanReadWord s a) :
    readData true s a .word = .done (s.mem.load s.cfg.bigEndian a .word) := by
  refine readData_of_permits (effectiveAddress_of_aligned (aligned_iff.mp h.1) s true) ?_
  rw [busReadAddresses_of_aligned h.1]
  exact h.2

theorem readData_of_deniedWord {s : State} {a : Word} (ha : aligned a .word = true)
    (h : Denies s .read s.psr.s (byteAddresses a 4) (byteAddresses a 4)) : readData true s a .word = .exc .accessError := by
  refine readData_of_denies (effectiveAddress_of_aligned (aligned_iff.mp ha) s true) ?_
  rw [busReadAddresses_of_aligned ha]
  exact h

theorem loadWords_cons {lost : Option Slot} {s : State} {p : Word × Slot} {n : Nat} (hi : s.interruptAfter n = none)
    (hp : CanReadWord s p.1) (rest : List (Word × Slot)) :
    loadWords lost (p :: rest) n s = loadWords lost rest (n + 1) (s.loadWord lost p) := by
  rw [loadWords, hi, readData_of_canReadWord hp, State.loadWord]
  dsimp only
  split <;> rfl

/-- A transfer comes to the words after `l` in the state that those of `l` leave. -/
theorem loadWords_append {lost : Option Slot} {l : List (Word × Slot)} {n : Nat} {s : State}
    (hl : ∀ p ∈ l, CanReadWord s p.1) (hi : ∀ k < l.length, s.interruptAfter (n + k) = none)
    (rest : List (Word × Slot)) :
    loadWords lost (l ++ rest) n s = loadWords lost rest (n + l.length) (s.loadAll lost l) := by
  induction l generalizing n s with
  | nil => rfl
  | cons p l ih =>
    have same := (loadWord_loaded lost s p).onlyRegs.sameSettings
    rw [List.forall_mem_cons] at hl
    rw [List.length_cons, Nat.add_comm l.length] at hi ⊢
    rw [List.cons_append, ← Nat.add_assoc, loadWords_cons (n := n) (hi 0 (by omega)) hl.1]
    refine ih (fun q hq => same.canReadWord (hl.2 q hq)) fun k hk => ?_
    rw [same.interruptAfter, Nat.add_assoc]
    exact hi (1 + k) (by omega)

theorem loadWords_of_uninterrupted {lost : Option Slot} {l : List (Word × Slot)} {s : State}
    (hl : ∀ p ∈ l, CanReadWord s p.1) (hi : Uninterrupted s) : loadWords lost l 0 s = .done (s.loadAll lost l) := by
  have run := loadWords_append (lost := lost) hl (fun k _ => hi (0 + k)) []
  rwa [List.append_nil] at run

/-! ### Storing -/

/-- The state when the words of a list have been stored. -/
def State.storeAll (s : State) (l : List (Word × Word)) : State := l.foldl (fun t p => storeState t p.1 .word p.2) s

/-- `u` is `s` with the words of `l` stored, and no other byte. -/
structure Stored (l : List (Word × Word)) (s u : State) : Prop where
  onlyBytes : OnlyBytes (l.flatMap fun p => byteAddresses p.1 4) s u
  value : ∀ p ∈ l, u.mem.load s.cfg.bigEndian p.1 .word = p.2

theorem storeState_onlyBytes (s : State) (a : Word) (w : Width) (v : Word) :
    OnlyBytes (byteAddresses a w.bytes) s (storeState s a w v) :=
  ⟨_, _, rfl, fun hwf => ⟨Memory.wf_store _ _ a w v hwf, fun c hc => Memory.read_store_frame _ _ a w v c hwf hc⟩⟩

theorem OnlyBytes.trans {l l' : List Word} {s t u : State} (h : OnlyBytes l s t) (h' : OnlyBytes l' t u) :
    OnlyBytes (l ++ l') s u := by
  obtain ⟨m, w, rfl, hm⟩ := h
  obtain ⟨m', w', rfl, hm'⟩ := h'
  refine ⟨m', w', rfl, fun hwf => ?_⟩
  obtain ⟨hmwf, hkeep⟩ := hm hwf
  obtain ⟨hmwf', hkeep'⟩ := hm' hmwf
  refine ⟨hmwf', fun a ha => ?_⟩
  rw [List.mem_append, not_or] at ha
  exact (hkeep' a ha.2).trans (hkeep a ha.1)

/-- A word is still there when bytes outside it have been stored. -/
theorem OnlyBytes.load_word {l : List Word} {t u : State} (h : OnlyBytes l t u) (hwf : t.mem.wf = true) {a : Word}
    (ha : ∀ c ∈ byteAddresses a 4, c ∉ l) (big : Bool) : u.mem.load big a .word = t.mem.load big a .word := by
  obtain ⟨m, w, rfl, hm⟩ := h
  obtain ⟨-, hkeep⟩ := hm hwf
  exact Memory.load_congr (w := .word) big fun c hc => hkeep c (ha c hc)

theorem storeAll_stored {l : List (Word × Word)} (h : (l.flatMap fun p => byteAddresses p.1 4).Nodup) {s : State}
    (hwf : s.mem.wf = true) : Stored l s (s.storeAll l) := by
  induction l generalizing s with
  | nil => exact ⟨onlyBytes_refl _ s, fun p hp => absurd hp List.not_mem_nil⟩
  | cons p l ih =>
    rw [List.flatMap_cons, List.nodup_append] at h
    obtain ⟨-, hnodup, hdisjoint⟩ := h
    have hwf' : (storeState s p.1 .word p.2).mem.wf = true := Memory.wf_store _ _ p.1 .word p.2 hwf
    obtain ⟨hbytes, hvalue⟩ := ih hnodup hwf'
    refine ⟨?_, fun q hq => ?_⟩
    · rw [List.flatMap_cons]
      exact (storeState_onlyBytes s p.1 .word p.2).trans hbytes
    rcases List.mem_cons.mp hq with rfl | hq
    · exact (hbytes.load_word hwf' (fun c hc hc' => hdisjoint c hc c hc' rfl) _).trans
        (Memory.load_store_word _ hwf q.1 q.2)
    · exact hvalue q hq

/-- Words stored in a row, in whatever order, stand there and nothing else has changed. -/
theorem storeAll_storedWords {l : List (Word × Word)} {a : Word} {vs : List Word} (hl : l.Perm (wordsFrom a vs))
    (hlen : vs.length ≤ 21) {s : State} (hwf : s.mem.wf = true) : StoredWords s (s.storeAll l) a vs := by
  have hbytes : (l.flatMap fun p => byteAddresses p.1 4).Perm (wordBytes a vs.length) :=
    (hl.flatMap_right _).trans (.of_eq (wordsFrom_bytes a vs))
  have hfit : 4 * vs.length ≤ 2 ^ 32 := by omega
  have hnodup := hbytes.nodup_iff.mpr (nodup_byteAddresses a hfit)
  obtain ⟨⟨m, w, hu, hm⟩, hvalue⟩ := storeAll_stored hnodup hwf
  refine ⟨fun k hk => hvalue (wordAt a k, vs[k]) (hl.mem_iff.mpr (mem_wordsFrom.mpr ⟨k, hk, rfl⟩)), fun b hb => ?_⟩
  rw [hu]
  exact (hm hwf).2 b fun hb' => hb (hbytes.mem_iff.mp hb')

theorem storeAll_eq (s : State) (l : List (Word × Word)) :
    ∃ m w, s.storeAll l = { s with mem := m, written := w } := by
  induction l generalizing s with
  | nil => exact ⟨s.mem, s.written, rfl⟩
  | cons p l ih =>
    obtain ⟨m, w, h⟩ := ih (storeState s p.1 .word p.2)
    exact ⟨m, w, h⟩

theorem storeAll_sameSettings (s : State) (l : List (Word × Word)) : SameSettings s (s.storeAll l) := by
  obtain ⟨m, w, h⟩ := storeAll_eq s l
  exact ⟨s.gpr, s.freeCount, m, w, h⟩

theorem writeData_of_canWriteWord {s : State} {a : Word} (h : CanWriteWord s a) (v : Word) :
    writeData true s a .word v = .done (storeState s a .word v) :=
  writeData_of_permits (effectiveAddress_of_aligned (aligned_iff.mp h.1) s true) h.2 v

theorem writeData_of_deniedWord {s : State} {a : Word} (ha : aligned a .word = true)
    (h : Denies s .write s.psr.s (byteAddresses a 4) (byteAddresses a 4)) (v : Word) :
    writeData true s a .word v = .exc .accessError :=
  writeData_of_denies (effectiveAddress_of_aligned (aligned_iff.mp ha) s true) h v

theorem storeWords_cons {split : Bool} {s : State} {p : Word × Word} {n : Nat}
    (hi : (if split then s.interruptAfter n else none) = none) (hp : CanWriteWord s p.1) (rest : List (Word × Word)) :
    storeWords split (p :: rest) n s = storeWords split rest (n + 1) (storeState s p.1 .word p.2) := by
  rw [storeWords, hi, writeData_of_canWriteWord hp]

theorem storeWords_of_denied {split : Bool} {s : State} {p : Word × Word} {n : Nat}
    (hi : (if split then s.interruptAfter n else none) = none) (hp : aligned p.1 .word = true)
    (hd : Denies s .write s.psr.s (byteAddresses p.1 4) (byteAddresses p.1 4)) (rest : List (Word × Word)) :
    storeWords split (p :: rest) n s = .exc .accessError s := by
  rw [storeWords, hi, writeData_of_deniedWord hp hd]

/-- A transfer comes to the words after `l` in the state that those of `l` leave. -/
theorem storeWords_append {l : List (Word × Word)} {n : Nat} {s : State} (hl : ∀ p ∈ l, CanWriteWord s p.1)
    (hi : ∀ k < l.length, s.interruptAfter (n + k) = none) (rest : List (Word × Word)) :
    storeWords true (l ++ rest) n s = storeWords true rest (n + l.length) (s.storeAll l) := by
  induction l generalizing n s with
  | nil => rfl
  | cons p l ih =>
    have same := (storeState_onlyBytes s p.1 .word p.2).sameSettings
    rw [List.forall_mem_cons] at hl
    rw [List.length_cons, Nat.add_comm l.length] at hi ⊢
    rw [List.cons_append, ← Nat.add_assoc, storeWords_cons (split := true) (n := n) (hi 0 (by omega)) hl.1]
    refine ih (fun q hq => same.canWriteWord (hl.2 q hq)) fun k hk => ?_
    rw [same.interruptAfter, Nat.add_assoc]
    exact hi (1 + k) (by omega)

theorem storeWords_of_uninterrupted {l : List (Word × Word)} {s : State} (hl : ∀ p ∈ l, CanWriteWord s p.1)
    (hi : Uninterrupted s) : storeWords true l 0 s = .done (s.storeAll l) := by
  have run := storeWords_append hl (fun k _ => hi (0 + k)) []
  rwa [List.append_nil] at run

/-! ### Stopping -/

/-- A request after `n` accesses comes after no other number of them (60_exceptions R633). -/
theorem interruptAfter_of_request {s : State} {n : Nat} {v : Byte} (hic : s.psr.ic = true) (hie : s.psr.ie = true)
    (hee : s.psr.ee = true) (hv : s.inputs.midIrq = some (n, v)) (k : Nat) :
    s.interruptAfter k = if n = k then some v else none := by
  simp only [State.interruptAfter, State.interruptsEnabled, hic, hie, hee, hv, Bool.and_self, if_true]

theorem takeInterrupt_of_readable {u : State} {v : Byte} (hv : 32 ≤ v.toNat) (h : VectorReadable u v) :
    takeInterrupt v u = .next (afterEntry u v u.pc) := by
  rw [takeInterrupt, if_neg (Nat.not_lt.mpr hv)]
  exact takeVector_of_readable h u.pc

/-- An instruction stops after `n` transfers if its transfer `x` goes on as `y` in the state `u` that these leave, and `y`
stops at once for an interrupt or for an access that fails. -/
theorem stopsAfter_of_xfer {i : Instr} {s u : State} {kind : AccessKind} {n : Nat} {a : Word} {x : Xfer} (y : Xfer)
    {k : State → Outcome} (hexec : exec i s = x.andThen k) (hu : SameSettings s u)
    (hrun : (∀ j < n, s.interruptAfter j = none) → x = y)
    (hirq : ∀ v, u.interruptAfter n = some v → y = .interrupted v u)
    (hfail : u.interruptAfter n = none → Denies u kind u.psr.s (byteAddresses a 4) (byteAddresses a 4) →
      y = .exc .accessError u) : StopsAfter i s kind n a u := by
  refine ⟨fun quiet hd => ?_, fun v hic hie hee hv => ?_⟩
  · rw [hexec, hrun fun j _ => quiet j, hfail ((hu.interruptAfter n).trans (quiet n)) (hu.denies hd)]
    exact traps_takeException .accessError u
  · have request := interruptAfter_of_request hic hie hee hv
    have stops : exec i s = takeInterrupt v u := by
      rw [hexec, hrun fun j hj => by rw [request, if_neg hj.ne'], hirq v (by rw [hu.interruptAfter, request, if_pos rfl])]
      rfl
    exact ⟨fun h32 hr => by rw [stops, takeInterrupt_of_readable h32 hr, hu.pc], fun hlt => stops.trans (if_pos hlt)⟩

/-- A multiple load stops at a word with the words before it loaded. -/
theorem loadWords_stopsAfter {i : Instr} {s : State} {lost : Option Slot} {before rest : List (Word × Slot)}
    {p : Word × Slot} {k : State → Outcome}
    (hexec : exec i s = (loadWords lost (before ++ p :: rest) 0 s).andThen k)
    (hs : SameSettings s (s.loadAll lost before)) (hp : aligned p.1 .word = true)
    (hread : ∀ q ∈ before, CanReadWord s q.1) :
    StopsAfter i s .read before.length p.1 (s.loadAll lost before) := by
  refine stopsAfter_of_xfer (loadWords lost (p :: rest) before.length (s.loadAll lost before)) hexec hs
    (fun quiet => ?_) (fun v hv => ?_) fun hi hd => ?_
  · rw [loadWords_append hread (by simpa only [Nat.zero_add] using quiet), Nat.zero_add]
  · rw [loadWords, hv]
  · rw [loadWords, hi, readData_of_deniedWord hp hd]

/-- A multiple store stops at a word with the words before it stored. -/
theorem storeWords_stopsAfter {i : Instr} {s : State} {before rest : List (Word × Word)} {p : Word × Word}
    {k : State → Outcome} (hexec : exec i s = (storeWords true (before ++ p :: rest) 0 s).andThen k)
    (hp : aligned p.1 .word = true) (hwrite : ∀ q ∈ before, CanWriteWord s q.1) :
    StopsAfter i s .write before.length p.1 (s.storeAll before) := by
  refine stopsAfter_of_xfer (storeWords true (p :: rest) before.length (s.storeAll before)) hexec
    (storeAll_sameSettings s before) (fun quiet => ?_) (fun v hv => ?_) fun hi hd => ?_
  · rw [storeWords_append hwrite (by simpa only [Nat.zero_add] using quiet), Nat.zero_add]
  · rw [storeWords, if_pos rfl, hv]
  · exact storeWords_of_denied (split := true) hi hp hd rest

end Sys2Proof.Machine
end

section
/-! The instructions that transfer several words (46_loadstore R445 to R459; 47_system R497, R498): complete, and stopped
part-way. -/

namespace Sys2Proof.Machine

/-! ### Each instruction is its transfer -/

theorem withAlignedBase_of_aligned {a : Word} {empty : Bool} (h : (empty || aligned a .word) = true) (s : State)
    (k : Outcome) : withAlignedBase a empty s k = k := if_pos h

/-- A list is empty, or its base is aligned as its words are. -/
theorem isEmpty_or_aligned {α : Type} {l : List α} {a : Word} (h : ∀ k < l.length, aligned (wordAt a k) .word = true) :
    (l.isEmpty || aligned a .word) = true := by
  cases l with
  | nil => rfl
  | cons x l =>
    rw [List.isEmpty_cons, Bool.false_or, ← wordAt_zero a]
    exact h 0 (Nat.succ_pos _)

theorem wordAt_sub (a : Word) (k : Nat) : wordAt (a - BitVec.ofNat 32 (4 * k)) k = a := BitVec.sub_add_cancel _ _

theorem aligned_sub (a : Word) (k : Nat) : aligned (a - BitVec.ofNat 32 (4 * k)) .word = aligned a .word := by
  rw [← aligned_wordAt _ k, wordAt_sub]

section Exec

variable {s : State}

section LdmStm

variable {ry rx imm5 : BitVec 5} {x : Slot} (hx : s.slotOf rx = some x) (hl : ry.toNat + imm5.toNat ≤ 15)
  (ha : aligned (s.reg x) .word = true)

include hx hl ha

theorem exec_ldm32_of_aligned :
    exec (.ldm32 ry rx imm5) s =
      (loadWords (some x) (wordsFrom (s.reg x)
        ((List.range (imm5.toNat + 1)).map fun k => slot4 s.psr.s (BitVec.ofNat 4 (ry.toNat + k)))) 0 s).andThen
          (finish 4) := by
  show execLdm32 ry rx imm5 s = _
  rw [execLdm32, withReg_of_slot hx, ldmList_of_le hl]
  exact withAlignedBase_of_aligned (empty := false) ha s _

theorem exec_stm32_of_aligned :
    exec (.stm32 ry rx imm5) s =
      (storeWords true (wordsFrom (s.reg x)
        ((List.range (imm5.toNat + 1)).map fun k => s.reg (slot4 s.psr.s (BitVec.ofNat 4 (ry.toNat + k))))) 0 s).andThen
          (finish 4) := by
  show execStm32 ry rx imm5 s = _
  rw [execStm32, withReg_of_slot hx, ldmList_of_le hl]
  refine (withAlignedBase_of_aligned (empty := false) ha s _).trans ?_
  rw [List.map_map]
  rfl

end LdmStm

theorem pushList_of_aligned {l : List Slot} (h : (l.isEmpty || aligned (s.reg s.spSlot) .word) = true) :
    pushList l s =
      (storeWords true (wordsFrom (s.reg s.spSlot - BitVec.ofNat 32 (4 * l.length)) (l.map s.reg)).reverse 0 s).andThen
        fun t => finish 2 (t.setReg s.spSlot (s.reg s.spSlot - BitVec.ofNat 32 (4 * l.length))) :=
  withAlignedBase_of_aligned h s _

theorem popList_of_aligned {l : List Slot} (h : (l.isEmpty || aligned (s.reg s.spSlot) .word) = true)
    (k : State → Outcome) :
    popList l s k =
      (loadWords none (wordsFrom (s.reg s.spSlot) l) 0 s).andThen
        fun t => k (t.setReg s.spSlot (s.reg s.spSlot + BitVec.ofNat 32 (4 * l.length))) :=
  withAlignedBase_of_aligned h s _

section Nesting

variable (hs : s.psr.s = true) (ha : aligned (s.reg slotSpvSp) .word = true)

include hs

theorem spSlot_of_supervisor : s.spSlot = slotSpvSp := by rw [spSlot_eq, hs]; rfl

include ha

theorem exec_nie16_of_aligned :
    exec .nie16 s =
      (storeWords false [(s.reg slotSpvSp - 4, s.epc), (s.reg slotSpvSp - 8, s.epsr)] 0 s).andThen fun t =>
        finish 2 { t.setReg slotSpvSp (s.reg slotSpvSp - 8) with psr := { t.psr with ee := true, ie := true } } := by
  refine (privileged_of_supervisor hs _).trans ?_
  rw [spSlot_of_supervisor hs]
  exact withAlignedBase_of_aligned (empty := false) ha s _

theorem exec_nir16_of_aligned :
    exec .nir16 s =
      (readData true s (s.reg slotSpvSp) .word).andThen s fun savedPsr =>
        (readData true s (s.reg slotSpvSp + 4) .word).andThen s fun savedPc =>
          .next (({ s with epsr := savedPsr, epc := savedPc }).setReg slotSpvSp
            (s.reg slotSpvSp + 8)).returnFromException := by
  refine (privileged_of_supervisor hs _).trans ?_
  rw [spSlot_of_supervisor hs]
  exact withAlignedBase_of_aligned (empty := false) ha s _

end Nesting

end Exec

/-! ### Complete transfers -/

theorem storedWords_of_mem {s t u : State} {a : Word} {vs : List Word} (h : StoredWords s u a vs) (ht : t.mem = u.mem) :
    StoredWords s t a vs := by rwa [StoredWords, ht]

/-- The words of a row are in the registers of its list. -/
theorem loadAll_wordsFrom (lost : Option Slot) (s : State) (a : Word) {l : List Slot} (hl : l.Nodup) :
    ∃ g c, s.loadAll lost (wordsFrom a l) = { s with gpr := g, freeCount := c } ∧
      (∀ (k : Nat) (h : k < l.length), lost ≠ some l[k] →
        (s.loadAll lost (wordsFrom a l)).reg l[k] = s.mem.load s.cfg.bigEndian (wordAt a k) .word) ∧
      (∀ q ∉ l, (s.loadAll lost (wordsFrom a l)).reg q = s.reg q) ∧ (lost = none → c = s.freeCount) := by
  obtain ⟨⟨g, c, hu, hkeep⟩, hvalue, hfree⟩ := loadAll_loaded lost (l := wordsFrom a l) (by rwa [wordsFrom_snd]) s
  rw [wordsFrom_snd] at hkeep
  refine ⟨g, c, hu, fun k hk hne => ?_, hkeep, fun hnone => ?_⟩
  · exact hvalue (wordAt a k, l[k]) (mem_wordsFrom.mpr ⟨k, hk, rfl⟩) hne
  · have free := hfree hnone
    rwa [hu] at free

/-- Settles O23: the base is aligned as the first word is, and the list names no register twice. -/
theorem loadMultipleResult : Obligations.LoadMultipleResult := by
  unfold Obligations.LoadMultipleResult
  intro s ry rx imm5 x hx hl hread hquiet r
  have hbase : aligned (s.reg x) .word = true := by simpa only [wordAt_zero] using (hread 0 (Nat.zero_le _)).1
  let l := (List.range (imm5.toNat + 1)).map r
  have hlen : l.length = imm5.toNat + 1 := by rw [List.length_map, List.length_range]
  have hwords := forall_mem_wordsFrom (l := l) fun k hk => hread k (Nat.le_of_lt_succ (hk.trans_eq hlen))
  obtain ⟨g, c, hu, hvalue, hkeep, -⟩ := loadAll_wordsFrom (l := l) (some x) s (s.reg x) (ldmList_nodup s.psr.s hl)
  refine ⟨(s.loadAll (some x) (wordsFrom (s.reg x) l)).advance 4, ?_, fun k hk hne => ?_, fun q hq => ?_, ?_⟩
  · rw [exec_ldm32_of_aligned hx hl hbase, loadWords_of_uninterrupted hwords hquiet]; rfl
  · have hkl : k < l.length := (Nat.lt_succ_of_le hk).trans_eq hlen.symm
    have hget : l[k] = r k := by simp only [l, List.getElem_map, List.getElem_range]
    rw [← hget] at hne ⊢
    exact hvalue k hkl fun h => hne (Option.some.inj h).symm
  · refine hkeep q fun hmem => ?_
    obtain ⟨k, hk, rfl⟩ := List.mem_map.mp hmem
    exact hq k (Nat.le_of_lt_succ (List.mem_range.mp hk)) rfl
  · rw [hu]; rfl

/-- Settles O24: the base is aligned as the first word is, and the words are different bytes. -/
theorem storeMultipleResult : Obligations.StoreMultipleResult := by
  unfold Obligations.StoreMultipleResult
  intro s ry rx imm5 x hx hl hwrite hquiet hwf
  have hbase : aligned (s.reg x) .word = true := by simpa only [wordAt_zero] using (hwrite 0 (Nat.zero_le _)).1
  let vs := (List.range (imm5.toNat + 1)).map fun k => s.reg (slot4 s.psr.s (BitVec.ofNat 4 (ry.toNat + k)))
  have hlen : vs.length = imm5.toNat + 1 := by rw [List.length_map, List.length_range]
  have hwords := forall_mem_wordsFrom (l := vs) fun k hk => hwrite k (Nat.le_of_lt_succ (hk.trans_eq hlen))
  obtain ⟨m, w, hu⟩ := storeAll_eq s (wordsFrom (s.reg x) vs)
  refine ⟨(s.storeAll (wordsFrom (s.reg x) vs)).advance 4, ?_, storedWords_of_mem ?_ rfl, ?_⟩
  · rw [exec_stm32_of_aligned hx hl hbase, storeWords_of_uninterrupted hwords hquiet]; rfl
  · exact storeAll_storedWords (.refl _) (hlen.le.trans (by omega)) hwf
  · rw [hu]; rfl

/-- What a complete PUSH or IPUSH leaves (R456, R458). -/
theorem pushList_result {s : State} {l : List Slot} (hl : l.length ≤ 21)
    (hwrite : ∀ k < l.length, CanWriteWord s (wordAt (s.reg s.spSlot - BitVec.ofNat 32 (4 * l.length)) k))
    (hquiet : Uninterrupted s) (hwf : s.mem.wf = true) :
    let top := s.reg s.spSlot - BitVec.ofNat 32 (4 * l.length)
    ∃ t, pushList l s = .next t ∧ StoredWords s t top (l.map s.reg) ∧ t.reg s.spSlot = top ∧
      KeepsOthers s t [s.spSlot] ∧ t = { s with gpr := t.gpr, mem := t.mem, written := t.written, pc := s.pc + 2 } := by
  intro top
  have hbase : (l.isEmpty || aligned (s.reg s.spSlot) .word) = true := by
    rw [← aligned_sub _ l.length]
    exact isEmpty_or_aligned fun k hk => (hwrite k hk).1
  let row := (wordsFrom top (l.map s.reg)).reverse
  have hwords : ∀ p ∈ row, CanWriteWord s p.1 := fun p hp =>
    forall_mem_wordsFrom (fun k hk => hwrite k (by rwa [List.length_map] at hk)) p (List.mem_reverse.mp hp)
  obtain ⟨m, w, hu⟩ := storeAll_eq s row
  refine ⟨((s.storeAll row).setReg s.spSlot top).advance 2, ?_, storedWords_of_mem ?_ rfl, reg_setReg_same _ _ _,
    fun q hq => ?_, ?_⟩
  · rw [pushList_of_aligned hbase, storeWords_of_uninterrupted hwords hquiet]; rfl
  · exact storeAll_storedWords (List.reverse_perm _) (by rwa [List.length_map]) hwf
  · rw [hu]
    exact reg_setReg_ne _ _ (List.ne_of_not_mem_cons hq)
  · rw [hu]; rfl

/-- Settles O25: the two instructions are one transfer, of different lists. -/
theorem pushResults : Obligations.PushResults := by
  unfold Obligations.PushResults
  rintro s i l (⟨r15, list1, hlist, rfl, rfl⟩ | ⟨rfl, rfl⟩)
  · rw [filter_eq_pushPopList r15 hlist]
    exact pushList_result (length_le_of_nodup (pushPopList_nodup r15 list1))
  · exact pushList_result (by decide)

/-- What a complete POP or IPOP leaves before it goes on (R457, R459). -/
theorem popList_result {s : State} {l : List Slot} (hl : l.Nodup) (hsp : s.spSlot ∉ l)
    (hread : ∀ k < l.length, CanReadWord s (wordAt (s.reg s.spSlot) k)) (hquiet : Uninterrupted s) :
    ∃ u g, u = { s with gpr := g } ∧ (∀ next, popList l s next = next u) ∧
      (∀ (k : Nat) (h : k < l.length),
        u.reg l[k] = s.mem.load s.cfg.bigEndian (wordAt (s.reg s.spSlot) k) .word) ∧
      u.reg s.spSlot = s.reg s.spSlot + BitVec.ofNat 32 (4 * l.length) ∧ KeepsOthers s u (s.spSlot :: l) := by
  have hbase := isEmpty_or_aligned fun k hk => (hread k hk).1
  obtain ⟨g, c, hu, hvalue, hkeep, hfree⟩ := loadAll_wordsFrom none s (s.reg s.spSlot) hl
  rw [hfree rfl] at hu
  refine ⟨(s.loadAll none (wordsFrom (s.reg s.spSlot) l)).setReg s.spSlot _, _, by rw [hu]; rfl, fun next => ?_,
    fun k hk => ?_, reg_setReg_same _ _ _, fun q hq => ?_⟩
  · rw [popList_of_aligned hbase, loadWords_of_uninterrupted (forall_mem_wordsFrom hread) hquiet]; rfl
  · rw [reg_setReg_ne _ _ (ne_of_mem_of_not_mem (List.getElem_mem hk) hsp)]
    exact hvalue k hk nofun
  · rw [List.mem_cons, not_or] at hq
    rw [reg_setReg_ne _ _ hq.1]
    exact hkeep q hq.2

/-- Settles O26: the two instructions are one transfer, of different lists, and then go on in their own way. -/
theorem popResults : Obligations.PopResults := by
  unfold Obligations.PopResults
  rintro s i l (⟨r15, list1, hlist, rfl, rfl⟩ | ⟨rfl, rfl⟩) sp hread hquiet
  · rw [filter_eq_pushPopList r15 hlist] at hread ⊢
    obtain ⟨u, g, hu, hexec, hvalue, hnew, hkeep⟩ :=
      popList_result (pushPopList_nodup r15 list1) (slotSp_notMem_pushPopList _ _ _) hread hquiet
    refine ⟨u.setPc (u.reg slotLr), hexec fun t => finishAt (t.reg slotLr) t, hvalue, hnew, hkeep, ?_⟩
    rw [if_neg nofun, hu]
    rfl
  · obtain ⟨u, g, hu, hexec, hvalue, hnew, hkeep⟩ :=
      popList_result (by decide) (slotSp_notMem_interruptList _) hread hquiet
    refine ⟨u.advance 2, hexec (finish 2), hvalue, hnew, hkeep, ?_⟩
    rw [if_pos rfl, hu]
    rfl

/-! ### Stopped transfers -/

/-- What a multiple load that stops at its `n`-th word leaves (R445 c). -/
theorem loadRow_stops {i : Instr} {s : State} {lost : Option Slot} {base : Word} {l : List Slot} {n : Nat}
    {k : State → Outcome} (hexec : exec i s = (loadWords lost (wordsFrom base l) 0 s).andThen k) (hl : l.Nodup)
    (hn : n < l.length) (hbase : aligned base .word = true) (hread : ∀ k < n, CanReadWord s (wordAt base k)) :
    ∃ u, (∀ (k : Nat) (h : k < l.length), k < n → lost ≠ some l[k] →
        u.reg l[k] = s.mem.load s.cfg.bigEndian (wordAt base k) .word) ∧
      (∀ q ∉ l.take n, u.reg q = s.reg q) ∧ u = { s with gpr := u.gpr, freeCount := u.freeCount } ∧
      StopsAfter i s .read n (wordAt base n) u := by
  have hlen : (l.take n).length = n := List.length_take_of_le hn.le
  obtain ⟨g, c, hu, hvalue, hkeep, -⟩ := loadAll_wordsFrom lost s base (hl.sublist (List.take_sublist n l))
  rw [wordsFrom_split base hn] at hexec
  have stops := loadWords_stopsAfter hexec ⟨g, c, s.mem, s.written, hu⟩ ((aligned_wordAt base n).trans hbase)
    (forall_mem_wordsFrom fun k hk => hread k (hlen ▸ hk))
  rw [wordsFrom_length, hlen] at stops
  refine ⟨_, fun k hk hkn hne => ?_, hkeep, by rw [hu], stops⟩
  simpa only [List.getElem_take] using hvalue k (hlen.symm ▸ hkn) (by rwa [List.getElem_take])

/-- Settles O31: LDM, POP and IPOP are one transfer; NIR is two reads, which leave nothing. -/
theorem loadsStopped : Obligations.LoadsStopped := by
  unfold Obligations.LoadsStopped
  refine ⟨fun i s l base lost n hi hn hbase hread => ?rows, ?nir⟩
  case rows =>
    have pop (t : List Slot) (hb : aligned (s.reg s.spSlot) .word = true) :=
      popList_of_aligned (s := s) (l := t) (by rw [hb, Bool.or_true])
    rcases hi with ⟨ry, rx, imm5, x, rfl, hx, hl, rfl, rfl, rfl⟩ | ⟨r15, list1, rfl, rfl, rfl, rfl⟩ | ⟨rfl, rfl, rfl, rfl⟩
    · exact loadRow_stops (exec_ldm32_of_aligned hx hl hbase) (ldmList_nodup s.psr.s hl) hn hbase hread
    · exact loadRow_stops (pop _ hbase fun t => finishAt (t.reg slotLr) t) (pushPopList_nodup r15 list1) hn hbase hread
    · exact loadRow_stops (pop interruptList hbase (finish 2)) (by decide) hn hbase hread
  case nir =>
    intro s hs sp fails hsp
    have hexec := exec_nir16_of_aligned hs hsp
    have denied {a : Word} (ha : aligned a .word = true) (hd : fails a) : readData true s a .word = .exc .accessError :=
      readData_of_deniedWord ha (by rwa [hs])
    refine ⟨fun hd => ?_, fun hread hd => ?_⟩
    · rw [hexec, denied hsp hd]
      exact traps_takeException .accessError s
    · rw [hexec, readData_of_canReadWord hread, denied (a := sp + 4) ((aligned_wordAt sp 1).trans hsp) hd]
      exact traps_takeException .accessError s

/-- What an STM that stops at its `n`-th word leaves (R445 c). -/
theorem storeRow_stops {i : Instr} {s : State} {base : Word} {vs : List Word} {n : Nat} {k : State → Outcome}
    (hexec : exec i s = (storeWords true (wordsFrom base vs) 0 s).andThen k) (hlen : vs.length ≤ 21) (hn : n < vs.length)
    (hbase : aligned base .word = true) (hwf : s.mem.wf = true) (hwrite : ∀ k < n, CanWriteWord s (wordAt base k)) :
    ∃ u, StoredWords s u base (vs.take n) ∧ u = { s with mem := u.mem, written := u.written } ∧
      StopsAfter i s .write n (wordAt base n) u := by
  have htake : (vs.take n).length = n := List.length_take_of_le hn.le
  rw [wordsFrom_split base hn] at hexec
  have stops := storeWords_stopsAfter hexec ((aligned_wordAt base n).trans hbase)
    (forall_mem_wordsFrom fun k hk => hwrite k (htake ▸ hk))
  rw [wordsFrom_length, htake] at stops
  obtain ⟨m, w, hu⟩ := storeAll_eq s (wordsFrom base (vs.take n))
  exact ⟨_, storeAll_storedWords (.refl _) (by omega) hwf, by rw [hu], stops⟩

/-- What a PUSH or IPUSH leaves that stops when it has stored the words above the `j`-th, from the last down (R456, R445 c). -/
theorem pushList_stops {i : Instr} {s : State} {l : List Slot} (hexec : exec i s = pushList l s) (hlen : l.length ≤ 21)
    {n j : Nat} (hj : l.length = j + 1 + n) (hsp : aligned (s.reg s.spSlot) .word = true) (hwf : s.mem.wf = true) :
    let top := s.reg s.spSlot - BitVec.ofNat 32 (4 * l.length)
    (∀ k < l.length, j + 1 ≤ k → CanWriteWord s (wordAt top k)) →
    ∃ u, StoredWords s u (wordAt top (j + 1)) ((l.drop (j + 1)).map s.reg) ∧
      u = { s with mem := u.mem, written := u.written } ∧ StopsAfter i s .write n (wordAt top j) u := by
  intro top hwrite
  have hn : j < (l.map s.reg).length := by rw [List.length_map]; omega
  let row := (wordsFrom (wordAt top (j + 1)) ((l.map s.reg).drop (j + 1))).reverse
  have hrow : row.length = n := by
    rw [List.length_reverse, wordsFrom_length, List.length_drop, List.length_map]; omega
  have hwords : ∀ p ∈ row, CanWriteWord s p.1 := fun p hp => by
    refine forall_mem_wordsFrom (fun k hk => ?_) p (List.mem_reverse.mp hp)
    rw [List.length_drop, List.length_map] at hk
    rw [← wordAt_add]
    exact hwrite (j + 1 + k) (by omega) (by omega)
  rw [pushList_of_aligned (by rw [hsp, Bool.or_true]), wordsFrom_split top hn, List.reverse_append, List.reverse_cons,
    List.append_assoc, List.singleton_append] at hexec
  have stops := storeWords_stopsAfter hexec ((aligned_wordAt top j).trans ((aligned_sub _ _).trans hsp)) hwords
  rw [hrow] at stops
  obtain ⟨m, w, hu⟩ := storeAll_eq s row
  refine ⟨_, ?_, by rw [hu], stops⟩
  rw [List.map_drop]
  exact storeAll_storedWords (List.reverse_perm _) (by rw [List.length_drop, List.length_map]; omega) hwf

/-- NIE whose first or second store fails (47_system R497, 92 D37). -/
theorem nie16_stops {s : State} (hs : s.psr.s = true) (hwf : s.mem.wf = true)
    (hsp : aligned (s.reg slotSpvSp) .word = true) :
    let sp := s.reg slotSpvSp
    let fails (a : Word) : Prop := Denies s .write true (byteAddresses a 4) (byteAddresses a 4)
    (fails (sp - 4) → Traps s 2 (exec .nie16 s)) ∧
      (CanWriteWord s (sp - 4) → fails (sp - 8) →
        ∃ u, StoredWords s u (sp - 4) [s.epc] ∧ u = { s with mem := u.mem, written := u.written } ∧
          Traps u 2 (exec .nie16 s)) := by
  intro sp fails
  have hexec := exec_nie16_of_aligned hs hsp
  refine ⟨fun hd => ?_, fun hwrite hd => ?_⟩
  · rw [hexec, storeWords_of_denied (split := false) (p := (sp - 4, s.epc)) rfl ((aligned_sub sp 1).trans hsp) (by rwa [hs])]
    exact traps_takeException .accessError s
  · have same := (storeState_onlyBytes s (sp - 4) .word s.epc).sameSettings
    have stored := storeAll_storedWords (l := [(sp - 4, s.epc)]) (vs := [s.epc]) (.refl _) (Nat.le_add_left 1 20) hwf
    refine ⟨storeState s (sp - 4) .word s.epc, stored, rfl, ?_⟩
    rw [hexec, storeWords_cons (split := false) (p := (sp - 4, s.epc)) rfl hwrite,
      storeWords_of_denied (split := false) (p := (sp - 8, s.epsr)) rfl ((aligned_sub sp 2).trans hsp)
        (same.denies (by rwa [hs]))]
    exact traps_takeException .accessError _

/-- Settles O32: STM goes up its row, PUSH and IPUSH go down theirs, and NIE is a row of two. -/
theorem storesStopped : Obligations.StoresStopped := by
  unfold Obligations.StoresStopped
  refine ⟨fun s ry rx imm5 x n hx hl hn hbase hwf hwrite => ?stm, ?push,
    fun s hs hwf => nie16_stops hs hwf⟩
  case stm =>
    have stops := storeRow_stops (exec_stm32_of_aligned hx hl hbase) (n := n)
      (by rw [List.length_map, List.length_range]; omega) (by rw [List.length_map, List.length_range]; omega) hbase hwf hwrite
    rwa [← List.map_take, List.take_range, min_eq_left (by omega)] at stops
  case push =>
    intro i s l n hi top hn hsp hwf hwrite
    obtain ⟨j, hj⟩ := Nat.exists_eq_add_of_lt hn
    have hj : l.length = j + 1 + n := by omega
    have hfirst : l.length - n = j + 1 := by omega
    have hnext : l.length - 1 - n = j := by omega
    rw [hfirst] at hwrite ⊢
    rw [hnext]
    rcases hi with ⟨r15, list1, rfl, rfl⟩ | ⟨rfl, rfl⟩
    · exact pushList_stops rfl (length_le_of_nodup (pushPopList_nodup r15 list1)) hj hsp hwf hwrite
    · exact pushList_stops rfl (by decide) hj hsp hwf hwrite

end Sys2Proof.Machine
end

section
/-! Control registers as MFCR and MTCR see them (10_state R30 to R63; 47_system R492, R493): the masks and words the model
computes are the numbers and bits the rules name. -/

namespace Sys2Proof.Machine

/-! ### Words -/

/-- Masking with the `n` low bits is the remainder modulo 2^n. -/
theorem and_lowMask_eq (v : Word) {n : Nat} (hn : n ≤ 32) : v &&& lowMask n = BitVec.ofNat 32 (v.toNat % 2 ^ n) := by
  apply BitVec.eq_of_toNat_eq
  have below : 2 ^ n - 1 < 2 ^ 32 :=
    (Nat.sub_lt (Nat.two_pow_pos n) Nat.one_pos).trans_le (Nat.pow_le_pow_right (by decide) hn)
  have small : v.toNat % 2 ^ n < 2 ^ 32 := (Nat.mod_le _ _).trans_lt v.isLt
  rw [lowMask, BitVec.toNat_and, BitVec.toNat_ofNat, BitVec.toNat_ofNat, Nat.mod_eq_of_lt below, Nat.mod_eq_of_lt small,
    Nat.and_two_pow_sub_one_eq_mod]

/-- The fields of CCR as a sum, each at its place (10_state R49). -/
theorem ccrWord_eq (cfg : Config) (mp : BitVec 2) :
    ccrWord cfg mp = BitVec.ofNat 32 ((if cfg.beV2 then 2 ^ 13 else 0) + 2 ^ 8 * cfg.sck.toNat +
      (if cfg.bigEndian then 2 ^ 7 else 0) + mp.toNat) := by
  have place : ∀ (v e : Bool) (k : BitVec 3) (m : BitVec 2),
      0#18 ++ BitVec.ofBool v ++ 0#2 ++ k ++ BitVec.ofBool e ++ 0#5 ++ m =
        BitVec.ofNat 32 ((if v then 2 ^ 13 else 0) + 2 ^ 8 * k.toNat + (if e then 2 ^ 7 else 0) + m.toNat) := by decide
  exact place cfg.beV2 cfg.bigEndian cfg.sck mp

/-! ### Reading -/

/-- The PACR that PRSR selects, and 0 without its region (10_state R52, 92 D6). -/
theorem readCr_pacr (s : State) :
    readCr s .pacr = if s.rid.toNat < s.cfg.mpuRegions.val then s.pacr[s.rid.toNat]'s.rid.isLt else 0 := by
  unfold readCr selectedRegion
  split_ifs <;> rfl

/-- Settles O34: the register a number names, and what it holds. -/
theorem readControlRegister : Obligations.ReadControlRegister := by
  unfold Obligations.ReadControlRegister
  intro s rz z hs hz reads
  have reading {n sel : BitVec 5} {v : Word} (cr : Cr) (hcr : crOf s.cfg.hasVbr n sel = some cr)
      (hv : readCr s cr = v) : reads n sel v := hv ▸ exec_mfcr32 hs hz hcr
  exact ⟨reading .psr rfl rfl, fun hvbr => reading .vbr (if_pos hvbr) rfl, reading .epsr rfl rfl, reading .epc rfl rfl,
    reading .gcr rfl rfl, reading .gsr rfl (and_lowMask_eq _ (Nat.le_of_lt_succ s.cfg.gsrWidth.isLt)),
    reading .cpuidr rfl rfl, reading .ccr rfl (ccrWord_eq s.cfg s.mp), reading .capr rfl rfl,
    reading .pacr rfl (readCr_pacr s), reading .prsr rfl (zimm_eq_ofNat s.rid), reading .srcr rfl rfl,
    reading .userSp rfl rfl⟩

/-! ### Writing -/

theorem writeCr_gcr (s : State) (v : Word) :
    writeCr s v .gcr = { s with gcr := BitVec.ofNat 32 (v.toNat % 2 ^ s.cfg.gcrWidth.val) } := by
  rw [← and_lowMask_eq v (Nat.le_of_lt_succ s.cfg.gcrWidth.isLt)]
  rfl

theorem writeCr_pacr (s : State) (v : Word) :
    writeCr s v .pacr = if s.rid.toNat < s.cfg.mpuRegions.val then
      { s with pacr := s.pacr.set s.rid.toNat (v &&& 0xFFFFFC3F#32) s.rid.isLt } else s := by
  unfold writeCr selectedRegion
  split_ifs <;> rfl

theorem writeCr_ccr_truncate (s : State) (v : Word) :
    writeCr s v .ccr = if s.cfg.mpuRegions = 0 then s else { s with mp := v.truncate 2 } := by
  rw [writeCr_ccr, ← BitVec.setWidth_eq_extractLsb' (by decide)]
  exact if_congr Fin.val_eq_zero_iff rfl rfl

theorem writeCr_prsr_truncate (s : State) (v : Word) :
    writeCr s v .prsr = if s.cfg.mpuRegions = 0 then s else { s with rid := v.truncate 3 } := by
  rw [writeCr_prsr, ← BitVec.setWidth_eq_extractLsb' (by decide)]
  exact if_congr Fin.val_eq_zero_iff rfl rfl

/-- With the MPU off a write of CCR has not enabled it (20_memory R115). -/
theorem enablesMpuUnsafely_of_disabled {s : State} (h : s.mp = 0) (pc : Word) : enablesMpuUnsafely s pc = false := by
  rw [enablesMpuUnsafely, h]
  rfl

/-- The note on how the MPU was enabled is kept apart from the control registers (log 15). -/
@[simp] theorem writeCr_mpuUnsafe (s : State) (v : Word) (cr : Cr) : (writeCr s v cr).mpuUnsafe = s.mpuUnsafe := by
  cases cr
  case ccr | prsr | pacr => unfold writeCr; dsimp only; split <;> rfl
  all_goals rfl

section Mtcr

variable {s : State} {rx n sel : BitVec 5} {x : Slot} (hs : s.psr.s = true) (hx : s.slotOf rx = some x)

include hs hx

/-- MTCR of a register that neither resets nor enables the MPU is the write alone (47_system R493). -/
theorem exec_mtcr32_of_ne {cr : Cr} (hcr : crOf s.cfg.hasVbr n sel = some cr) (hccr : cr ≠ .ccr) (hsrcr : cr ≠ .srcr) :
    exec (.mtcr32 rx n sel) s = .next ((writeCr s (s.reg x) cr).advance 4) := by
  have noTrigger : ¬ triggersReset s (s.reg x) cr = true := fun h => hsrcr (triggersReset_iff.mp h).1
  have noted : s.mpuUnsafe = (writeCr s (s.reg x) cr).mpuUnsafe := (writeCr_mpuUnsafe s (s.reg x) cr).symm
  rw [exec_mtcr32 hs hx hcr, if_neg noTrigger, beq_false_of_ne hccr, Bool.false_and, Bool.or_false, noted]

/-- MTCR of CCR notes whether the MPU is enabled against 20_memory R115 (log 15). -/
theorem exec_mtcr32_ccr {t : State} (ht : writeCr s (s.reg x) .ccr = t) :
    exec (.mtcr32 rx 18 0) s =
      .next ({ t with mpuUnsafe := s.mpuUnsafe || enablesMpuUnsafely t s.pc }.advance 4) :=
  ht ▸ exec_mtcr32 hs hx (cr := .ccr) rfl

/-- On a core without regions, where MP is 0, the write of CCR does nothing (92 D6). -/
theorem exec_mtcr32_ccr_of_noRegions (hr : s.cfg.mpuRegions = 0) (hmp : s.mp = 0) :
    exec (.mtcr32 rx 18 0) s = .next (s.advance 4) := by
  have same : writeCr s (s.reg x) .ccr = s := (writeCr_ccr_truncate s _).trans (if_pos hr)
  rw [exec_mtcr32_ccr hs hx same, enablesMpuUnsafely_of_disabled hmp, Bool.or_false]

theorem exec_mtcr32_ccr_of_regions (hr : s.cfg.mpuRegions ≠ 0) :
    exec (.mtcr32 rx 18 0) s = .next ({ s with
      mp := (s.reg x).truncate 2
      mpuUnsafe := s.mpuUnsafe || enablesMpuUnsafely { s with mp := (s.reg x).truncate 2 } s.pc }.advance 4) :=
  exec_mtcr32_ccr hs hx ((writeCr_ccr_truncate s _).trans (if_neg hr))

end Mtcr

/-- Settles O35: the register a number names, and what is written to it; CCR also notes how the MPU is enabled. -/
theorem writeControlRegister : Obligations.WriteControlRegister := by
  unfold Obligations.WriteControlRegister
  intro s rx x hs hx v writes
  have writing {n sel : BitVec 5} {t : State} (cr : Cr) (hcr : crOf s.cfg.hasVbr n sel = some cr)
      (ht : writeCr s v cr = t) (hccr : cr ≠ .ccr := by decide) (hsrcr : cr ≠ .srcr := by decide) : writes n sel t :=
    ht ▸ exec_mtcr32_of_ne hs hx hcr hccr hsrcr
  refine ⟨writing .psr rfl rfl, fun hvbr => writing .vbr (if_pos hvbr) rfl, writing .epsr rfl rfl, writing .epc rfl rfl,
    writing .gcr rfl (writeCr_gcr s v), writing .gsr rfl rfl, writing .cpuidr rfl rfl, ?ccr, writing .capr rfl rfl,
    by decide, writing .pacr rfl (writeCr_pacr s v), writing .prsr rfl (writeCr_prsr_truncate s v),
    writing .userSp rfl rfl⟩
  case ccr =>
    split
    case isTrue hr => exact exec_mtcr32_ccr_of_noRegions hs hx hr
    case isFalse hr => exact exec_mtcr32_ccr_of_regions hs hx hr

end Sys2Proof.Machine
end

section
/-! Privileged, control and special instructions (47_system): each effect in supervisor mode, and the privilege violation in user
mode. -/

namespace Sys2Proof.Machine

/-! ### Bits of PSR, low power and return -/

/-- Settles O38: a bit of the field selects setting or clearing; what is not selected stays. -/
theorem statusBitResults : Obligations.StatusBitResults := by
  unfold Obligations.StatusBitResults
  refine ⟨fun s imm5 hs => ⟨?set, ?clear⟩, fun s hb => ⟨bctmOnly_of_bctm hb _, bctmOnly_of_bctm hb _⟩, fun s => rfl⟩
  case set =>
    have setBit (sel b : Bool) : (if sel then true else b) = (b || sel) := by cases sel <;> cases b <;> rfl
    rw [setBit, setBit]
    exact privileged_of_supervisor hs _
  case clear =>
    have clearBit (sel b : Bool) : (if sel then false else b) = (b && !sel) := by cases sel <;> cases b <;> rfl
    rw [clearBit, clearBit]
    exact privileged_of_supervisor hs _

/-- Settles O39. -/
theorem returnResult : Obligations.ReturnResult := by
  unfold Obligations.ReturnResult
  exact fun s hs => privileged_of_supervisor hs (.next s.returnFromException)

/-- Settles O40: the three instructions are one effect, each with its own mode. -/
theorem lowPowerResults : Obligations.LowPowerResults := by
  unfold Obligations.LowPowerResults
  intro s hs
  have enters (k : LowPower) : enterLowPower k s = .next { s with pc := s.pc + 4, mode := .lowPower k } :=
    privileged_of_supervisor hs _
  exact ⟨enters .wait, enters .doze, enters .stop⟩

/-! ### Nesting of interrupts -/

/-- NIE when both words can be written (R497). -/
theorem exec_nie16_of_canWrite {s : State} (hs : s.psr.s = true) (h1 : CanWriteWord s (s.reg slotSpvSp - 4))
    (h2 : CanWriteWord s (s.reg slotSpvSp - 8)) :
    exec .nie16 s = .next
      { storeState (storeState s (s.reg slotSpvSp - 4) .word s.epc) (s.reg slotSpvSp - 8) .word s.epsr with
        gpr := s.gpr.set slotSpvSp (s.reg slotSpvSp - 8)
        psr := { s.psr with ee := true, ie := true }
        pc := s.pc + 2 } := by
  have same := (storeState_onlyBytes s (s.reg slotSpvSp - 4) .word s.epc).sameSettings
  have base : aligned (s.reg slotSpvSp) .word = true := (aligned_sub _ 1).symm.trans h1.1
  rw [exec_nie16_of_aligned hs base, storeWords_cons rfl h1, storeWords_cons rfl (same.canWriteWord h2)]
  rfl

/-- NIR when both words can be read (R498). -/
theorem exec_nir16_of_canRead {s : State} (hs : s.psr.s = true) (h1 : CanReadWord s (s.reg slotSpvSp))
    (h2 : CanReadWord s (s.reg slotSpvSp + 4)) :
    exec .nir16 s = .next (({ s with
      epsr := s.mem.load s.cfg.bigEndian (s.reg slotSpvSp) .word
      epc := s.mem.load s.cfg.bigEndian (s.reg slotSpvSp + 4) .word }.setReg slotSpvSp
        (s.reg slotSpvSp + 8)).returnFromException) := by
  rw [exec_nir16_of_aligned hs h1.1, readData_of_canReadWord h1, readData_of_canReadWord h2]
  rfl

/-- Settles O33: NIE is two stores and NIR two loads, each with its words permitted. -/
theorem nestingResults : Obligations.NestingResults := by
  unfold Obligations.NestingResults
  intro s hs sp
  exact ⟨exec_nie16_of_canWrite hs, exec_nir16_of_canRead hs⟩

/-! ### User mode -/

theorem privileged_of_user {s : State} (h : s.psr.s = false) (k : Outcome) : privileged s k = takeException .privilege s := by
  rw [privileged, h]
  rfl

/-- Every privileged instruction asks for the mode before anything else (R490, R491). -/
theorem exec_of_user {i : Instr} {s : State} (hi : isPrivileged i = true) (h : s.psr.s = false) :
    exec i s = takeException .privilege s := by
  cases i
  case rte32 | stop32 | wait32 | doze32 | mfcr32 | mtcr32 | psrclr32 | psrset32 | nie16 | nir16 =>
    exact privileged_of_user h _
  all_goals cases hi

/-- Settles O43. -/
theorem privilegeViolation : Obligations.PrivilegeViolation := by
  unfold Obligations.PrivilegeViolation
  intro i s hi h
  rw [exec_of_user hi h]
  exact traps_takeException .privilege s

/-- Settles O55: the forms of a next state without those that only supervisor mode has. -/
theorem userModeConfined : Obligations.UserModeConfined := by
  unfold Obligations.UserModeConfined
  intro i s t hs h
  cases exec_outcomes i s t h with
  | completes u c b p hu _ _ _ =>
    obtain ⟨g, n, m, w, rfl, -⟩ := hu
    refine .inr ?_
    dsimp only
    rw [ite_self]
  | exception u e _ hu =>
    obtain ⟨g, n, m, w, rfl, -⟩ := hu
    exact .inl ⟨s.exceptionVector e, rfl, rfl, rfl, rfl⟩
  | interrupt u v _ hu _ _ _ =>
    obtain ⟨g, n, m, w, rfl, -⟩ := hu
    exact .inl ⟨v, rfl, rfl, rfl, rfl⟩
  | debug hi _ =>
    refine .inr ?_
    rw [if_pos hi]
  | system _ _ hsup _ => exact absurd hsup (Bool.eq_false_iff.mp hs)

end Sys2Proof.Machine
end

section
/-! Exceptions and interrupts (60_exceptions R610 to R632): entry, TRAP and BKPT, and what comes first at a boundary. -/

namespace Sys2Proof.Machine

/-! ### Entry -/

theorem readVectorWord_of_denies {s : State} {a : Word}
    (h : Denies s .fetch true (byteAddresses a 4) (byteAddresses a 4)) : readVectorWord s a = .exc .accessError := by
  simp only [readVectorWord, checkAccess_of_denies h]

/-- A vector word that cannot be read leaves the machine stuck (92 D17). -/
theorem takeVector_of_denies {s : State} {v : Byte}
    (h : Denies s .fetch true (byteAddresses (s.vectorAddress v) 4) (byteAddresses (s.vectorAddress v) 4)) (saved : Word) :
    takeVector v saved s = .fault .vectorRead := by
  have denies : Denies (s.enterVector v saved) .fetch true
      (byteAddresses ((s.enterVector v saved).vectorAddress v) 4)
      (byteAddresses ((s.enterVector v saved).vectorAddress v) 4) := h
  simp only [takeVector, readVectorWord_of_denies denies]

/-- Settles O41. -/
theorem exceptionEntry : Obligations.ExceptionEntry := by
  unfold Obligations.ExceptionEntry
  exact fun s v saved => ⟨fun h => takeVector_of_readable h saved, fun h => takeVector_of_denies h saved⟩

/-! ### TRAP and BKPT -/

theorem exec_bkpt16_of_noDebug {s : State} (h : s.cfg.hasDebug = false ∨ s.inputs.fdb = false) :
    exec .bkpt16 s = takeException .breakpoint s := by
  have off : (s.cfg.hasDebug && s.inputs.fdb) = false := Bool.and_eq_false_iff.mpr h
  exact if_neg (Bool.eq_false_iff.mp off)

theorem exec_bkpt16_of_debug {s : State} (hd : s.cfg.hasDebug = true) (hf : s.inputs.fdb = true) :
    exec .bkpt16 s = .next { s with mode := .debug } := if_pos (Bool.and_eq_true_iff.mpr ⟨hd, hf⟩)

/-- Settles O42. -/
theorem trapResults : Obligations.TrapResults := by
  unfold Obligations.TrapResults
  refine fun s => ⟨fun n => traps_takeException (.trap n) s, fun h => ?_, exec_bkpt16_of_debug⟩
  rw [exec_bkpt16_of_noDebug h]
  exact traps_takeException .breakpoint s

/-! ### Interrupts at a boundary -/

theorem pendingInterrupt_of_enabled {s : State} (hie : s.psr.ie = true) (hee : s.psr.ee = true) :
    s.pendingInterrupt = s.inputs.intReq := if_pos (Bool.and_eq_true_iff.mpr ⟨hie, hee⟩)

theorem pendingInterrupt_of_masked {s : State} (h : s.psr.ie = false ∨ s.psr.ee = false) : s.pendingInterrupt = none :=
  if_neg (Bool.eq_false_iff.mp (Bool.and_eq_false_iff.mpr h))

/-- A boundary that takes an interrupt: neither reset nor debug request comes first (R632, R634). -/
theorem step_of_pendingInterrupt {s : State} {v : Byte} (hmode : s.mode = .normal) (hphase : s.resetPhase = .running)
    (hunsafe : s.mpuUnsafe = false) (hreset : s.inputs.reset = false) (hdebug : s.debugRequested = false)
    (hv : s.pendingInterrupt = some v) : step s = tickOutcome (takeInterrupt v s) := by
  have taken : boundary s = takeInterrupt v s := by
    simp only [boundary, hunsafe, hdebug, hv, Bool.false_eq_true, if_false]
  rw [step, stepCore_of_normal hreset hmode, normalStep_of_running hphase, taken]

/-- Settles O47: with both bits set the request is pending; without one of them the step is undisturbed. -/
theorem interruptResults : Obligations.InterruptResults := by
  unfold Obligations.InterruptResults
  intro s hmode hphase hunsafe hreset hdebug
  refine ⟨fun v hie hee hreq h32 hr => ?_, fun hmask => ?_⟩
  · have hv : s.pendingInterrupt = some v := (pendingInterrupt_of_enabled hie hee).trans hreq
    rw [step_of_pendingInterrupt hmode hphase hunsafe hreset hdebug hv, takeInterrupt_of_readable h32 hr]
    rfl
  · exact step_of_undisturbed ⟨hmode, hphase, hunsafe, hreset, hdebug, pendingInterrupt_of_masked hmask⟩

/-! ### An undisturbed boundary -/

/-- The fetch of an encoding that can be fetched finds its instruction (20_memory R97). -/
theorem fetchDecode_of_decode {s : State} {i : Instr} {rest : List Half}
    (hd : decode [halfAt s s.pc, halfAt s (s.pc + 2)] = .instr i rest) (hf : CanFetch s i.length) :
    fetchDecode s = .instr i := by
  obtain ⟨c, hc, hs⟩ := halves_of_decode hd
  obtain ⟨-, rfl⟩ := encodes_decoded c i hc
  have alone (rest : List Half) := decode_halves hc rest
  unfold Instr.length at hf
  cases hcode : i.code with
  | short h =>
    rw [hcode] at hc hs hf alone
    obtain ⟨rfl, -⟩ := List.cons_eq_cons.mp hs
    rw [fetchDecode_of_short (fetchHalf_first hf) (isLong_of_decode16 hc)]
    exact congrArg Fetched.ofDecoded (alone [])
  | long w =>
    rw [hcode] at hc hs hf
    obtain ⟨hfirst, hsecond⟩ := fetchHalf_both hf
    obtain ⟨hhigh, -⟩ := List.cons_eq_cons.mp hs
    have hlong : isLong (halfAt s s.pc) = true := hhigh ▸ isLong_of_decode32 hc
    rw [fetchDecode_of_long hfirst hlong hsecond, hd]
    rfl

/-- The next inputs are those at the head of the schedule; when it is empty the last ones stay (log 7). -/
theorem tick_eq (s : State) : s.tick = { s with inputs := s.schedule.head?.getD s.inputs, schedule := s.schedule.tail } := by
  unfold State.tick
  split
  case h_1 empty =>
    rw [empty, List.head?_nil, Option.getD_none, List.tail_nil, ← empty]
  case h_2 i rest more => rw [more]; rfl

/-- Settles O4: the fetch finds the instruction that stands at the PC. -/
theorem stepRunsDecoded : Obligations.StepRunsDecoded := by
  unfold Obligations.StepRunsDecoded
  refine ⟨fun s i rest hs hd hf => ?_, tick_eq⟩
  rw [step_of_undisturbed hs, runInstr, fetchDecode_of_decode hd hf]

end Sys2Proof.Machine
end

section
/-! The cases the spec refuses to define (93 U1 to U3, U6, U9 to U11, U17, U20): where each refusal falls. -/

namespace Sys2Proof.Machine

/-! ### Registers that are not there -/

/-- A field that names no register is refused, whatever the instruction would do (92 D21). -/
theorem withReg_of_none {s : State} {n : BitVec 5} (h : s.slotOf n = none) (k : Slot → Outcome) :
    withReg s n k = .refused .noSuchRegister := by simp only [withReg, h]

/-- What is refused with the register is refused also where this field names none. -/
theorem withReg_refused {s : State} {n : BitVec 5} {k : Slot → Outcome} (h : ∀ r, k r = .refused .noSuchRegister) :
    withReg s n k = .refused .noSuchRegister := by
  cases hn : s.slotOf n with
  | none => exact withReg_of_none hn k
  | some r => rw [withReg_of_slot hn, h]

section Fields

variable {s : State} {f : BitVec 5} (hf : s.slotOf f = none)

include hf

theorem withReg_one {n : BitVec 5} (h : f ∈ [n]) (k : Slot → Outcome) : withReg s n k = .refused .noSuchRegister := by
  rw [← List.mem_singleton.mp h]
  exact withReg_of_none hf k

/-- An instruction of two fields looks up its source before its destination. -/
theorem withReg_two {z x : BitVec 5} (h : f ∈ [z, x]) (k : Slot → Slot → Outcome) :
    (withReg s x fun a => withReg s z (k a)) = .refused .noSuchRegister := by
  rcases List.mem_pair.mp h with rfl | rfl
  · exact withReg_refused fun a => withReg_of_none hf (k a)
  · exact withReg_of_none hf _

/-- An instruction of three fields looks up its sources before its destination. -/
theorem withReg_three {z x y : BitVec 5} (h : f ∈ [z, x, y]) (k : Slot → Slot → Slot → Outcome) :
    (withReg s x fun a => withReg s y fun b => withReg s z (k a b)) = .refused .noSuchRegister := by
  rcases List.mem_cons.mp h with rfl | h
  · exact withReg_refused fun a => withReg_refused fun b => withReg_of_none hf (k a b)
  rcases List.mem_pair.mp h with rfl | rfl
  · exact withReg_of_none hf _
  · exact withReg_refused fun a => withReg_of_none hf _

end Fields

/-- The fields of an instruction are looked up before it does anything, but for the mode that a privileged one needs and the
fields that BMASKI excludes (log 22). -/
theorem exec_of_noRegister {i : Instr} {s : State} {f : BitVec 5} (hi : f ∈ registerFields i) (hf : s.slotOf f = none)
    (hpriv : isPrivileged i = true → s.psr.s = true) (hmask : ∀ rz imm5, i = .bmaski32 rz imm5 → 16 ≤ imm5.toNat) :
    exec i s = .refused .noSuchRegister := by
  cases i
  case addu32 | addc32 | subu32 | subc32 | ixh32 | ixw32 | and32 | andn32 | or32 | xor32 | nor32 | lsl32 | lsr32 | asr32
    | rotl32 | mult32 => exact withReg_three hf hi _
  case incf32 | inct32 | decf32 | dect32 | bclri32 | bseti32 | lsli32 | lsri32 | asri32 | rotli32 | lslc32 | lsrc32 | asrc32
    | xsr32 | xtrb0 | xtrb1 | xtrb2 | xtrb3 | ff0 | ff1 | addi32 | subi32 | andi32 | andni32 | xori32 | ori32 | ld32b | ld32h
    | ld32w | ld32bs | ld32hs | st32b | st32h | st32w => exact withReg_two hf hi _
  case mvc32 | movi32 | movih32 | btsti32 | cmphsi32 | cmplti32 | cmpnei32 | lrw32 | ldm32 | stm32 =>
    exact withReg_one hf hi _
  case bmaski32 rz imm5 => exact (exec_bmaski32_of_le (hmask rz imm5 rfl) rz s).trans (withReg_one hf hi _)
  case mfcr32 | mtcr32 => exact (privileged_of_supervisor (hpriv rfl) _).trans (withReg_one hf hi _)
  all_goals cases hi

theorem ldmList_of_lt {supervisor : Bool} {ry imm5 : BitVec 5} (h : 15 < ry.toNat + imm5.toNat) :
    ldmList supervisor ry imm5 = none := if_neg (Nat.not_le.mpr h)

theorem exec_ldm32_of_noList {ry rx imm5 : BitVec 5} (h : 15 < ry.toNat + imm5.toNat) (s : State) :
    exec (.ldm32 ry rx imm5) s = .refused .noSuchRegister :=
  withReg_refused fun x => by rw [ldmList_of_lt h]

theorem exec_stm32_of_noList {ry rx imm5 : BitVec 5} (h : 15 < ry.toNat + imm5.toNat) (s : State) :
    exec (.stm32 ry rx imm5) s = .refused .noSuchRegister :=
  withReg_refused fun x => by rw [ldmList_of_lt h]

/-! ### Control registers that are not there -/

section ControlRegisters

variable {s : State} {r n sel : BitVec 5} {q : Slot} (hs : s.psr.s = true) (hr : s.slotOf r = some q)
  (hcr : crOf s.cfg.hasVbr n sel = none)

include hs hr hcr

theorem exec_mfcr32_of_noCr : exec (.mfcr32 r n sel) s = .refused .noSuchControlRegister := by
  show execMfcr32 r n sel s = _
  rw [execMfcr32, privileged_of_supervisor hs, withReg_of_slot hr, hcr]

theorem exec_mtcr32_of_noCr : exec (.mtcr32 r n sel) s = .refused .noSuchControlRegister := by
  show execMtcr32 r n sel s = _
  rw [execMtcr32, privileged_of_supervisor hs, withReg_of_slot hr, hcr]

end ControlRegisters

/-! ### An MPU of which the spec says nothing -/

/-- An enabled region that breaks the rules for PACR, in numbers (10_state R53). -/
theorem regionMalformed_iff {s : State} {i : Fin 8} :
    regionMalformed s i = true ↔ i.val < s.cfg.mpuRegions.val ∧ (s.pacr[i]).getLsbD 0 = true ∧
      let size := (s.pacr[i]).toNat / 2 % 32
      (size < 9 ∨ (s.pacr[i]).toNat / 2 ^ 10 * 2 ^ 10 % 2 ^ (size + 1) ≠ 0) := by
  simp only [regionMalformed, regionEnabled, pacrEnabled, Bool.and_eq_true, decide_eq_true_eq, Bool.not_eq_true',
    ← Bool.not_eq_true, pacrWellFormed_iff, pacrSize_eq, not_and_or, Nat.not_le, and_assoc]

/-- Every check is refused, whatever is accessed (93 U1, U2, U6). -/
theorem mpuCheck_of_undefined {s : State} {r : Refusal} (h : MpuUndefined s r) (kind : AccessKind) (supervisor : Bool)
    (a : Word) : mpuCheck s kind supervisor a = .refuse r := by
  rcases h with ⟨hregions, hmp, rfl⟩ | ⟨hmp, rfl, i, hi⟩
  · have regions : s.cfg.mpuRegions.val ≠ 0 := fun h => hregions (Fin.ext h)
    rcases hmp with hmp | hmp <;> simp [mpuCheck, regions, hmp]
  · have regions : s.cfg.mpuRegions.val ≠ 0 := by have := hi.1; omega
    have malformed : regionsDown.any (regionMalformed s) = true :=
      List.any_eq_true.mpr ⟨i, mem_regionsDown i, regionMalformed_iff.mpr hi⟩
    simp [mpuCheck, regions, hmp, malformed]

section Undefined

variable {s : State} {r : Refusal} (h : MpuUndefined s r)

include h

/-- The first byte of an access is refused. -/
theorem checkAccess_of_undefined (kind : AccessKind) (supervisor : Bool) (a : Word) (n : Nat) (bus : List Word) :
    checkAccess s kind supervisor (byteAddresses a (n + 1)) bus = .refuse r := by
  simp only [checkAccess, byteAddresses, mpuCheckAll, mpuCheck_of_undefined h]

theorem checkWidth_of_undefined (kind : AccessKind) (supervisor : Bool) (a : Word) (w : Width) (bus : List Word) :
    checkAccess s kind supervisor (byteAddresses a w.bytes) bus = .refuse r := by
  cases w <;> exact checkAccess_of_undefined h kind supervisor a _ bus

theorem readData_of_undefined {multi : Bool} {a b : Word} {w : Width} (hb : effectiveAddress s multi a w = some b) :
    readData multi s a w = .refuse r := by simp only [readData, hb, checkWidth_of_undefined h]

theorem writeData_of_undefined {multi : Bool} {a b : Word} {w : Width} (hb : effectiveAddress s multi a w = some b)
    (v : Word) : writeData multi s a w v = .refuse r := by simp only [writeData, hb, checkWidth_of_undefined h]

theorem Accesses.refused {a b : Word} {w : Width} {kind : AccessKind} {o : Outcome} (ho : Accesses s a w kind o)
    (hb : effectiveAddress s false a w = some b) : o = .refused r := by
  cases ho with
  | read k => rw [readData_of_undefined h hb]; rfl
  | write v k => rw [writeData_of_undefined h hb]; rfl

theorem fetchHalf_of_undefined (a : Word) : fetchHalf s a = .refuse r := by
  simp only [fetchHalf, checkAccess_of_undefined h]

/-- Entry changes nothing that the check of the vector's address looks at. -/
theorem takeVector_of_undefined (v : Byte) (saved : Word) : takeVector v saved s = .refused r := by
  have entered : MpuUndefined (s.enterVector v saved) r := h
  simp only [takeVector, readVectorWord, checkAccess_of_undefined entered]

/-! ### Transfers of several words -/

theorem loadWords_of_undefined (lost : Option Slot) {l : List (Word × Slot)} (hl : l ≠ [])
    (ha : ∀ p ∈ l, aligned p.1 .word = true) (hq : Uninterrupted s) : loadWords lost l 0 s = .refuse r := by
  cases l with
  | nil => exact absurd rfl hl
  | cons p rest =>
    have hp := effectiveAddress_of_aligned (aligned_iff.mp (ha p List.mem_cons_self)) s true
    rw [loadWords, hq 0, readData_of_undefined h hp]

theorem storeWords_of_undefined (split : Bool) {l : List (Word × Word)} (hl : l ≠ [])
    (ha : ∀ p ∈ l, aligned p.1 .word = true) (hq : Uninterrupted s) : storeWords split l 0 s = .refuse r := by
  cases l with
  | nil => exact absurd rfl hl
  | cons p rest =>
    have hp := effectiveAddress_of_aligned (aligned_iff.mp (ha p List.mem_cons_self)) s true
    rw [storeWords, hq 0, ite_self, writeData_of_undefined h hp]

theorem exec_nir16_of_undefined (hs : s.psr.s = true) (hsp : aligned (s.reg slotSpvSp) .word = true) :
    exec .nir16 s = .refused r := by
  rw [exec_nir16_of_aligned hs hsp,
    readData_of_undefined h (effectiveAddress_of_aligned (w := .word) (aligned_iff.mp hsp) s true)]
  rfl

end Undefined

theorem wordsFrom_ne_nil {α : Type} {l : List α} (h : l ≠ []) (a : Word) : wordsFrom a l ≠ [] := by
  rw [← List.length_pos_iff, wordsFrom_length]
  exact List.length_pos_iff.mpr h

theorem wordsFrom_aligned {α : Type} {a : Word} (ha : aligned a .word = true) (l : List α) :
    ∀ p ∈ wordsFrom a l, aligned p.1 .word = true :=
  forall_mem_wordsFrom (P := fun b => aligned b .word = true) fun k _ => (aligned_wordAt a k).trans ha

section Rows

variable {s : State} {r : Refusal} (h : MpuUndefined s r) (hq : Uninterrupted s) {a : Word} (ha : aligned a .word = true)

include h hq ha

theorem loadRow_of_undefined (lost : Option Slot) {l : List Slot} (hl : l ≠ []) (k : State → Outcome) :
    (loadWords lost (wordsFrom a l) 0 s).andThen k = .refused r := by
  rw [loadWords_of_undefined h lost (wordsFrom_ne_nil hl a) (wordsFrom_aligned ha l) hq]
  rfl

theorem storeRow_of_undefined {row : List (Word × Word)} {l : List Word} (hrow : row.Perm (wordsFrom a l)) (hl : l ≠ [])
    (k : State → Outcome) : (storeWords true row 0 s).andThen k = .refused r := by
  have nonempty : row ≠ [] := fun e => wordsFrom_ne_nil hl a (List.nil_perm.mp (e ▸ hrow))
  rw [storeWords_of_undefined h true nonempty (fun p hp => wordsFrom_aligned ha l p (hrow.mem_iff.mp hp)) hq]
  rfl

end Rows

section Multiple

variable {s : State} {r : Refusal} (h : MpuUndefined s r) (hq : Uninterrupted s)

include h hq

theorem pushList_of_undefined (hsp : aligned (s.reg s.spSlot) .word = true) {l : List Slot} (hl : l ≠ []) :
    pushList l s = .refused r := by
  rw [pushList_of_aligned (by rw [hsp, Bool.or_true])]
  exact storeRow_of_undefined h hq ((aligned_sub _ l.length).trans hsp) (List.reverse_perm _)
    (mt List.map_eq_nil_iff.mp hl) _

theorem popList_of_undefined (hsp : aligned (s.reg s.spSlot) .word = true) {l : List Slot} (hl : l ≠ [])
    (k : State → Outcome) : popList l s k = .refused r := by
  rw [popList_of_aligned (by rw [hsp, Bool.or_true])]
  exact loadRow_of_undefined h hq hsp none hl _

theorem exec_nie16_of_undefined (hs : s.psr.s = true) (hsp : aligned (s.reg slotSpvSp) .word = true) :
    exec .nie16 s = .refused r := by
  have words : ∀ p ∈ [(s.reg slotSpvSp - 4, s.epc), (s.reg slotSpvSp - 8, s.epsr)], aligned p.1 .word = true :=
    List.forall_mem_cons.mpr ⟨(aligned_sub _ 1).trans hsp, List.forall_mem_singleton.mpr ((aligned_sub _ 2).trans hsp)⟩
  rw [exec_nie16_of_aligned hs hsp, storeWords_of_undefined h false (List.cons_ne_nil _ _) words hq]
  rfl

/-- An instruction of several accesses comes to its first one, which is refused (20_memory R92). -/
theorem exec_of_multiBase_undefined {i : Instr} {a : Word} (hi : multiBase s i = some a)
    (hl : ∀ ry rx imm5 : BitVec 5, i = .ldm32 ry rx imm5 ∨ i = .stm32 ry rx imm5 → ry.toNat + imm5.toNat ≤ 15)
    (ha : aligned a .word = true) : exec i s = .refused r := by
  cases i
  case ldm32 ry rx imm5 =>
    obtain ⟨x, hx, rfl⟩ := Option.map_eq_some_iff.mp hi
    rw [exec_ldm32_of_aligned hx (hl ry rx imm5 (.inl rfl)) ha]
    exact loadRow_of_undefined h hq ha _ (by simp) _
  case stm32 ry rx imm5 =>
    obtain ⟨x, hx, rfl⟩ := Option.map_eq_some_iff.mp hi
    rw [exec_stm32_of_aligned hx (hl ry rx imm5 (.inr rfl)) ha]
    exact storeRow_of_undefined h hq ha (.refl _) (by simp) _
  case push16 =>
    obtain ⟨hne, heq⟩ := Option.ite_none_left_eq_some.mp hi
    cases heq
    exact pushList_of_undefined h hq ha hne
  case pop16 =>
    obtain ⟨hne, heq⟩ := Option.ite_none_left_eq_some.mp hi
    cases heq
    exact popList_of_undefined h hq ha hne fun t => finishAt (t.reg slotLr) t
  case ipush16 => cases hi; exact pushList_of_undefined h hq ha (by decide)
  case ipop16 => cases hi; exact popList_of_undefined h hq ha (by decide) _
  case nie16 =>
    obtain ⟨hs, heq⟩ := Option.ite_none_right_eq_some.mp hi
    cases heq
    rw [spSlot_of_supervisor hs] at ha
    exact exec_nie16_of_undefined h hq hs ha
  case nir16 =>
    obtain ⟨hs, heq⟩ := Option.ite_none_right_eq_some.mp hi
    cases heq
    rw [spSlot_of_supervisor hs] at ha
    exact exec_nir16_of_undefined h hs ha
  all_goals cases hi

end Multiple

/-! ### Parts of a step -/

theorem boundary_of_mpuUnsafe {s : State} (h : s.mpuUnsafe = true) : boundary s = .refused .mpuEnableUnsafe := if_pos h

theorem step_of_mpuUnsafe {s : State} (hmode : s.mode = .normal) (hphase : s.resetPhase = .running)
    (hreset : s.inputs.reset = false) (h : s.mpuUnsafe = true) : step s = .refused .mpuEnableUnsafe := by
  rw [step, stepCore_of_normal hreset hmode, normalStep_of_running hphase, boundary_of_mpuUnsafe h]
  rfl

/-- On a core with a cache the bytes of the program that were stored to are not fetched (92 D12). -/
theorem fetchHalf_of_rewritten {s : State} {a : Word}
    (h : Permits s .fetch s.psr.s (byteAddresses a 2) (byteAddresses a 2)) (hw : rewritten s (byteAddresses a 2) = true) :
    fetchHalf s a = .refuse .cachedCodeRewritten := by
  simp only [fetchHalf, checkAccess_of_permits h, hw, if_true]

theorem step_of_fetch_refuse {s : State} {r : Refusal} (hs : Undisturbed s) (hf : fetchDecode s = .refuse r) :
    step s = .refused r := by
  rw [step_of_undisturbed hs, runInstr, hf]
  rfl

theorem fetchDecode_of_first_refuse {s : State} {r : Refusal} (hf : fetchHalf s s.pc = .refuse r) :
    fetchDecode s = .refuse r := by simp only [fetchDecode, hf]

theorem fetchDecode_of_second_refuse {s : State} {x : Half} {r : Refusal} (hf : fetchHalf s s.pc = .done x)
    (hl : isLong x = true) (hf' : fetchHalf s (s.pc + 2) = .refuse r) : fetchDecode s = .refuse r := by
  simp only [fetchDecode, hf, hl, hf', if_true]

/-! ### The statement -/

/-- Settles O45: each refusal where it falls. -/
theorem refusals : Obligations.Refusals := by
  unfold Obligations.Refusals
  refine ⟨fun i s f hi hf hpriv hmask => exec_of_noRegister hi hf hpriv hmask,
    fun s ry rx imm5 hl => ⟨exec_ldm32_of_noList hl s, exec_stm32_of_noList hl s⟩, fun s rz imm5 hm => if_pos hm,
    fun s r n sel q hs hr hcr => ⟨exec_mfcr32_of_noCr hs hr hcr, exec_mtcr32_of_noCr hs hr hcr⟩,
    fun s hmode hphase hreset h => step_of_mpuUnsafe hmode hphase hreset h, fun s r h => ?undefined,
    fun s v hmode hphase hunsafe hreset hdebug hie hee hreq hv => ?interrupt, fun s hs => ?rewritten⟩
  case undefined =>
    exact ⟨mpuCheck_of_undefined h, fun i kind a b w ha hf hb => (exec_accesses ha hf).refused h hb,
      fun i a ha hl hbase hq => exec_of_multiBase_undefined h hq ha hl (aligned_iff.mpr hbase),
      takeVector_of_undefined h,
      fun hs => step_of_fetch_refuse hs (fetchDecode_of_first_refuse (fetchHalf_of_undefined h s.pc))⟩
  case interrupt =>
    have pending : s.pendingInterrupt = some v := (pendingInterrupt_of_enabled hie hee).trans hreq
    rw [step_of_pendingInterrupt hmode hphase hunsafe hreset hdebug pending, takeInterrupt, if_pos hv]
    rfl
  case rewritten =>
    intro stored word
    refine ⟨fun ⟨hp, hw⟩ => step_of_fetch_refuse hs (fetchDecode_of_first_refuse (fetchHalf_of_rewritten hp hw)),
      fun hf hl hst => step_of_fetch_refuse hs (fetchDecode_of_second_refuse (fetchHalf_first hf) hl ?_)⟩
    obtain ⟨hp, hw⟩ : stored (byteAddresses (s.pc + 2) 2) := byteAddresses_drop_two s.pc ▸ hst
    exact fetchHalf_of_rewritten hp hw

end Sys2Proof.Machine
end
